-- ==== Sys2Proof/Word.lean ====
section
/-! DEFINITION. The plain word types of the part, and the shapes in which things arrive from outside: a loop frame, a
slot cell, a management cell, a taken command, strap levels. Widths are those of 09 Tables 9.5 to 9.7. -/

namespace Sys2Proof

/-- One byte of a frame. -/
abbrev Byte := BitVec 8

/-- A 16-bit word: a frame number, a sample, a Q1.14 value, a counter (00 section 3.1). -/
abbrev Word := BitVec 16

/-- A logical slot, 0 to 63 (R21). -/
abbrev Slot := Fin 64

/-- A set of logical slots, bit n for slot n (R25, R122; the encoding of 09 Table 9.9). -/
abbrev SlotSet := BitVec 64

/-- A manager id, 0 to 3 (R5). -/
abbrev ManagerId := Fin 4

/-- A lock tag, 0 to 127 (R5). -/
abbrev Tag := BitVec 7

/-- The four lock domains (R156), in the order of their codes. -/
inductive Domain where
  | standby | config | capture | profile
  deriving DecidableEq, Repr

/-- One slot cell of 7 bytes, each bit kept as received (09 Table 9.6). -/
structure SlotCell where
  /-- bytes 0 to 1, the correction of the outbound half -/
  correction : Word
  /-- byte 2, the correction status of the outbound half -/
  status : Byte
  /-- byte 3, the flags of the return half -/
  flags : Byte
  /-- bytes 4 to 5, the sample of the return half -/
  sample : Word
  /-- byte 6, length class and lead of the return half -/
  notice : Byte
  deriving DecidableEq, Repr

/-- One management cell of 13 bytes, each bit kept as received (09 Table 9.7). -/
structure MgmtCell where
  /-- byte 0: kind, manager id, destination -/
  head : Byte
  /-- byte 1: lock tag -/
  tagByte : Byte
  /-- byte 2: sequence number -/
  seq : Byte
  /-- byte 3: command code -/
  code : Byte
  /-- byte 4: response status and item flag -/
  status : Byte
  /-- bytes 5 to 12 -/
  payload : Vector Byte 8
  deriving DecidableEq, Repr

/-- A whole loop frame (R1, 09 Table 9.5). The start delimiter 5AC3h is what makes it a frame, and is not held. -/
structure Frame where
  /-- bytes 2 to 3, the frame number -/
  number : Word
  /-- byte 4, the used-cell count as received -/
  used : Byte
  /-- bytes 5 to 6, the alert field -/
  alert : Word
  /-- bytes 7 to 454 -/
  cells : Vector SlotCell 64
  /-- bytes 455 to 506, the command area -/
  commands : Vector MgmtCell 4
  /-- bytes 507 to 558, the response area -/
  responses : Vector MgmtCell 4
  /-- bytes 559 to 562, the frame check as received -/
  check : BitVec 32
  deriving DecidableEq, Repr

/-- The fields of a taken command cell that decide it (R5, R148). -/
structure Request where
  manager : ManagerId
  tag : Tag
  seq : Byte
  payload : Vector Byte 8
  deriving DecidableEq, Repr

/-- Whether a passage began under the present port condition and lock state (R7, R8, R9). -/
inductive PassageStart where
  /-- the passage began after the last change of port condition or lock state -/
  | current
  /-- the passage was already in progress at the last change that R7, R8 or R9 names -/
  | earlier
  deriving DecidableEq, Repr

/-- How a return passage stands to the changes of port condition and lock state (R7, R8, R9, log 18). -/
inductive ReturnPassage where
  /-- the passage began after the last change, and completes before the next -/
  | current
  /-- the passage was already in progress at the last change that R7, R8 or R9 names -/
  | earlier
  /-- the next command makes the ports TRANSPARENT while this passage is in progress: until then the part has handled this
  many response cells, and has written its alert report or not -/
  | cut (cells : Fin 5) (report : Bool)
  deriving DecidableEq, Repr

/-- How the slot cells of an outbound frame meet the completions of the pass (R10, R85). -/
inductive Composition where
  /-- all cells are composed within the step of the frame -/
  | atOnce
  /-- each used slot cell, and behind them each command cell, arrives by an OUTBOUND_CELL_ARRIVAL of its own (log 2) -/
  | byCell
  /-- all cells are composed within the step of the frame, of the command area only this many cells are handled, and the next
  command makes the ports TRANSPARENT (R7, log 18) -/
  | cut (cells : Fin 5)
  deriving DecidableEq, Repr

/-- Outcome of the read-back check that ends a PERSIST (R177, step 4). -/
inductive ReadBack where
  | matches | differs
  deriving DecidableEq, Repr

/-- Levels on the strap pins NODE0 to NODE3 and STARTMODE (01 Table 1.6). -/
structure Straps where
  node : BitVec 4
  /-- true for start mode RUN, false for OFF -/
  startRun : Bool
  deriving DecidableEq, Repr

end Sys2Proof
end

