-- ==== Sys2Proof/Syntax.lean ====
section
/-! DEFINITION. The commands of the block: one constructor for each row of spec/opcode_table.json, in the table's
order. -/

namespace Sys2Proof

/-- One step of the part, with what the outside supplies to it. The docstrings name the row and its rule. -/
inductive Instr where
  /-- OUTBOUND_FRAME (R10): a whole frame arrives at OUTB_IN. -/
  | outboundFrame (f : Frame) (start : PassageStart) (mode : Composition)
  /-- RETURN_FRAME (R15): a whole frame arrives at RET_IN. -/
  | returnFrame (f : Frame) (passage : ReturnPassage)
  /-- LINE_IDLE (R9): the signal at OUTB_IN ceases. -/
  | lineIdle
  /-- LOCK_LOSS (R9). -/
  | lockLoss
  /-- SETTLE_END (R30). -/
  | settleEnd (t : Slot)
  /-- TARGET_COMPLETION (R81). -/
  | targetCompletion
  /-- SHOCK_EXIT (R126). -/
  | shockExit
  /-- LOCK_EXPIRY (R158). -/
  | lockExpiry (d : Domain)
  /-- BANK_SWAP (R140). -/
  | bankSwap
  /-- RESYNC_COPY_END (R143). -/
  | resyncCopyEnd
  /-- CAPTURE_COMPLETE (R173). -/
  | captureComplete
  /-- PERSIST_END (R177). -/
  | persistEnd (outcome : ReadBack)
  /-- PERSIST_TIME_LIMIT (R178). -/
  | persistTimeLimit
  /-- STATUS (R154). -/
  | status (r : Request)
  /-- CLAIM (R156). -/
  | claim (r : Request)
  /-- RELEASE (R157). -/
  | release (r : Request)
  /-- SELECT (R151). -/
  | select (r : Request)
  /-- DATA_STANDBY_CT_REPLACE (R61). -/
  | dataStandbyCtReplace (r : Request)
  /-- DATA_STANDBY_CT_ADD (R62). -/
  | dataStandbyCtAdd (r : Request)
  /-- DATA_STANDBY_KERNEL_REPLACE (R63). -/
  | dataStandbyKernelReplace (r : Request)
  /-- DATA_STANDBY_KERNEL_ADD (R64). -/
  | dataStandbyKernelAdd (r : Request)
  /-- DATA_STANDBY_TEMPLATE (R65). -/
  | dataStandbyTemplate (r : Request)
  /-- DATA_SLOTMAP (R22). -/
  | dataSlotmap (r : Request)
  /-- DATA_TARGETS (R25). -/
  | dataTargets (r : Request)
  /-- DATA_MUTES (R122). -/
  | dataMutes (r : Request)
  /-- DATA_LIMITS (R129). -/
  | dataLimits (r : Request)
  /-- DATA_ALERTMAP (R165). -/
  | dataAlertmap (r : Request)
  /-- READ (R153). -/
  | read (r : Request)
  /-- READ_COUNTERS (R168). -/
  | readCounters (r : Request)
  /-- READ_CAPTURE (R174). -/
  | readCapture (r : Request)
  /-- COMMIT (R133). -/
  | commit (r : Request)
  /-- RESYNC (R144). -/
  | resync (r : Request)
  /-- CLEAR_STANDBY (R69). -/
  | clearStandby (r : Request)
  /-- MODE (R116). -/
  | mode (r : Request)
  /-- ARM_CAPTURE (R170). -/
  | armCapture (r : Request)
  /-- PERSIST (R177). -/
  | persist (r : Request)
  /-- ACK_ALERT (R164). -/
  | ackAlert (r : Request)
  /-- RESET_FULL (R180). -/
  | resetFull (r : Request)
  /-- RESET_WARM (R181). -/
  | resetWarm (r : Request)
  /-- UNKNOWN_COMMAND (R148): a taken cell whose command code is `code`. -/
  | unknownCommand (code : Byte) (r : Request)
  /-- POWER_UP (R179): the supply is applied, with these strap levels and RST_N high or low. -/
  | powerUp (straps : Straps) (rstHigh : Bool)
  /-- PROFILE_LOAD_END (R7). -/
  | profileLoadEnd
  /-- RST_N_FALL (R7). -/
  | rstNFall
  /-- RST_N_RISE (R181), with the strap levels at that moment (read only when R179 samples them there). -/
  | rstNRise (straps : Straps)
  /-- OUTBOUND_CELL_ARRIVAL (R10, R85): the next cell of the passage in composition reaches the Outbound Port, a used slot cell or,
  behind them, a command cell (log 2). -/
  | outboundCellArrival
  /-- LOSS_OF_POWER (R176). -/
  | lossOfPower
  deriving DecidableEq, Repr

end Sys2Proof
end

