-- ==== Sys2Proof/Decode.lean ====
section
/-! DEFINITION. Words to commands. No row of spec/opcode_table.json gives bits (the block has no instruction word), so
no word spells a command. -/

namespace Sys2Proof

/-- The command a word of the table's bits spells: none, for any word (log 17). -/
def decodeTableWord (_nbits _w : Nat) : Option Instr := none

end Sys2Proof
end

