-- ==== Sys2Proof/Config.lean ====
section
/-! DEFINITION. The numbers the spec fixes for the part. The spec leaves no result of a command undefined, so there is
no free value here. -/

namespace Sys2Proof.Config

/-- Entries of a slot's Sample History (R37). -/
def historyDepth : Nat := 32

/-- Frame boundaries of a settle period (R29). -/
def settlePeriod : Nat := 256

/-- Capacity of the Pulse Pool (R96). -/
def poolCapacity : Nat := 24

/-- Samples of a template (R57). -/
def templateLength : Nat := 32

/-- Capacity of the Response Queue (R149). -/
def queueCapacity : Nat := 8

/-- Consecutive bad outbound frames that lose lock (R9). -/
def badRunLimit : Nat := 8

/-- Smallest gap of frame numbers that flushes the histories (R11). -/
def gapFlush : Nat := 32

/-- Lease count at which a lock domain becomes FREE (R158). -/
def leaseLimit : Nat := 32768

/-- Frame boundaries after which a running PERSIST fails (R178). -/
def persistLimit : Nat := 20000

/-- Frame boundaries of a full capture (R173). -/
def captureLength : Nat := 256

/-- Largest pre-trigger count (R155). -/
def preTriggerMax : Nat := 192

/-- Rows checked at one boundary of a validation (R135). -/
def rowsPerStep : Nat := 4

/-- Copy items copied at one boundary of a resynchronisation (R142). -/
def itemsPerStep : Nat := 8

/-- Number of copy items (R142). -/
def copyItems : Nat := 200

/-- The destination that addresses every splice (R5). -/
def broadcastNode : BitVec 4 := 15

/-- Generator polynomial of CRC-32 (R161). -/
def crcPolynomial : BitVec 32 := 0x04C11DB7

end Sys2Proof.Config
end

