-- ==== Sys2Proof/Machine/State.lean ====
section
/-! DEFINITION. All the state the spec gives the part, as plain data, block by block (00 Table 1.2), the state after
reset, and the reasons a step can stop. -/

namespace Sys2Proof.Machine

/-! Loop Ports (01 Table 1.1) -/

/-- Port condition (R7). -/
inductive PortCondition where
  | transparent | active
  deriving DecidableEq, Repr

/-- Lock state (R8, R9). -/
inductive LockState where
  | searching | locked
  deriving DecidableEq, Repr

/-- Frame-match state (R14); `noFrame` is the spec's NONE. -/
inductive MatchState where
  | noFrame | awaiting | spent
  deriving DecidableEq, Repr

/-- Number and used-cell count of the last good outbound frame (R10). -/
structure LastGood where
  number : Word
  used : Byte
  deriving DecidableEq, Repr

/-- Kind of a taken RESET (R159). -/
inductive ResetKind where
  | full | warm
  deriving DecidableEq, Repr

/-- An outbound passage whose cells arrive one at a time: the frame so far, the number of its cells that have arrived, first the
used slot cells and then the four command cells, and the RESET taken in it so far (R10, R12, log 2). -/
structure Composing where
  frame : Frame
  next : Nat
  reset : Option ResetKind
  deriving DecidableEq, Repr

/-- State of the two ports, with the frame each output last forwarded. -/
structure LoopPorts where
  condition : PortCondition
  lock : LockState
  candidate : Option Word
  badRun : Nat
  lastGood : Option LastGood
  frameMatch : MatchState
  composing : Option Composing
  outbOut : Option Frame
  retOut : Option Frame
  deriving DecidableEq, Repr

/-! Slot Map unit (02 Table 2.1) -/

/-- Runtime state of a logical slot (R27). -/
inductive SlotState where
  | detached | settling | attached
  deriving DecidableEq, Repr

/-- Runtime record of a logical slot (R27). -/
structure SlotRecord where
  state : SlotState
  settle : Nat
  deriving DecidableEq, Repr

/-- Slot Map (none is the spec's NONE), Target Set and runtime records (R21, R25, R27). -/
structure SlotUnit where
  map : Vector (Option (Fin 64)) 64
  targets : SlotSet
  records : Vector SlotRecord 64
  deriving DecidableEq, Repr

/-! Sample Intake (03 Table 3.1) -/

/-- A slot's history, newest first; none is a hole, whose value reads 0 (R37). -/
abbrev History := Vector (Option Word) 32

/-- Histories of all slots and the head frame number they share (R37). -/
structure Intake where
  history : Vector History 64
  head : Option Word
  deriving DecidableEq, Repr

/-! Bank Store and Bank Engine (04 Tables 4.1 and 4.2, 08 Table 8.1) -/

/-- A present Coupling Table position (R55). -/
structure Entry where
  source : Slot
  kernel : Fin 128
  gain : Word
  delay : Fin 16
  pulseGain : Option Word
  deriving DecidableEq, Repr

/-- A row of eight positions, absent or holding an entry (R54). -/
abbrev Row := Vector (Option Entry) 8

/-- A kernel of 16 taps with its defined flag (R56). -/
structure Kernel where
  taps : Vector Word 16
  defined : Bool
  deriving DecidableEq, Repr

/-- A template of 32 samples (R57). -/
abbrev Template := Vector Word 32

/-- One bank (R51). -/
structure Bank where
  rows : Vector Row 64
  kernels : Vector Kernel 128
  templates : Vector Template 8
  deriving DecidableEq, Repr

/-- Identity of a bank (R51). -/
inductive BankId where
  | a | b
  deriving DecidableEq, Repr

/-- Standby condition (R58). -/
inductive StandbyCondition where
  | clean | torn
  deriving DecidableEq, Repr

/-- Bank Engine state (R132). -/
inductive EngineState where
  | idle | validating | swapPending | resync
  deriving DecidableEq, Repr

/-- Operation kind (R132). -/
inductive OperationKind where
  | commit | resync
  deriving DecidableEq, Repr

/-- Reason of a rejection (R136). -/
inductive RejectReason where
  | undefinedKernel | badEntry | unstable
  deriving DecidableEq, Repr

/-- Rejection record (R138). -/
structure Rejection where
  row : Slot
  reason : RejectReason
  deriving DecidableEq, Repr

/-- The banks, their roles, and the Bank Engine's own state. -/
structure BankUnit where
  bankA : Bank
  bankB : Bank
  liveId : BankId
  generation : Word
  standbyCondition : StandbyCondition
  engine : EngineState
  progress : Nat
  operation : Option OperationKind
  rejection : Option Rejection
  deriving DecidableEq, Repr

/-! Coupling Engine (05 Table 5.1) -/

/-- How far the computation of the next target has gone: the next row position, the exact sum so far, and the derated
value once the shift of R79 has been applied (R76). -/
structure TargetWork where
  position : Nat
  sum : Int
  derated : Option Int
  deriving DecidableEq, Repr

/-- A pass record that is RUNNING (R72). -/
structure Pass where
  frame : Word
  next : Slot
  saturationSeen : Bool
  work : TargetWork
  deriving DecidableEq, Repr

/-- Last correction, stamp and fresh mark of a target (R72). -/
structure TargetRecord where
  last : Word
  stamp : Option Word
  fresh : Bool
  deriving DecidableEq, Repr

/-- Pass record (none is IDLE) and target records. -/
structure Coupling where
  pass : Option Pass
  targets : Vector TargetRecord 64
  deriving DecidableEq, Repr

/-! Pulse Scheduler (06 Tables 6.1 and 6.2) -/

/-- Direction of a seek (R4). -/
inductive Direction where
  | inward | outward
  deriving DecidableEq, Repr

/-- Play state of an instance (R97). -/
inductive PlayState where
  | pending | playing
  deriving DecidableEq, Repr

/-- A pulse instance (R96). -/
structure Pulse where
  source : Slot
  lengthClass : Fin 8
  direction : Direction
  onset : Word
  position : Int
  play : PlayState
  deriving DecidableEq, Repr

/-! Limit Monitor (07 Table 7.1) -/

/-- The modes a manager may choose (R116), and the start modes. -/
inductive ChosenMode where
  | off | run | freeze
  deriving DecidableEq, Repr

/-- Operating mode (R115). -/
inductive OperatingMode where
  | off | run | freeze | shockHold
  deriving DecidableEq, Repr

/-- Limit level of a target (R119). -/
inductive LimitLevel where
  | normal | level1 | level2 | muted
  deriving DecidableEq, Repr

/-- Limit level, saturation count and recovery run of a target (R119). -/
structure LimitRecord where
  level : LimitLevel
  saturation : Nat
  recovery : Nat
  deriving DecidableEq, Repr

/-- The six Limit Parameters, in item order (R129). -/
structure Limits where
  saturationThreshold : Word
  recoveryPeriod : Word
  shockThreshold : Word
  shockQuorum : Word
  shockHoldOff : Word
  rowStability : Word
  deriving DecidableEq, Repr

/-- State of the Limit Monitor. -/
structure LimitMonitor where
  mode : OperatingMode
  request : Option ChosenMode
  saved : Option ChosenMode
  shockSeen : Bool
  holdOff : Nat
  records : Vector LimitRecord 64
  muteSet : SlotSet
  params : Limits
  deriving DecidableEq, Repr

/-! Management Interpreter and Lock Table (09 Table 9.1) -/

/-- The tables of the in-band interface, in the order of their codes (09 Table 9.2). -/
inductive Table where
  | standbyCt | standbyKernel | standbyTemplate | liveCt | liveKernel | liveTemplate | slotmap | targets | mutes
  | limits | alertmap | pulses | counters | capture
  deriving DecidableEq, Repr

/-- Kind of a management cell (R5), in the order of the codes of 09 Table 9.7. -/
inductive CellKind where
  | empty | command | response | declined
  deriving DecidableEq, Repr

/-- Status of a response (R150), in the order of the codes of 09 Table 9.7. -/
inductive Answer where
  | ok | accepted | busy | notHolder | lockHeld | range | badTable | badMode | badValue | torn | empty
  deriving DecidableEq, Repr

/-- Mode of a Load Context (R151); `plain` is the spec's NONE. -/
inductive ContextMode where
  | plain | replace | add | set | clear
  deriving DecidableEq, Repr

/-- State of a Load Context (R151); `unselected` is the spec's NONE. -/
inductive ContextState where
  | unselected | opened | exhausted
  deriving DecidableEq, Repr

/-- A manager's Load Context (R151). -/
structure LoadContext where
  table : Option Table
  index : Nat
  mode : ContextMode
  state : ContextState
  deriving DecidableEq, Repr

/-- An entry of the Response Queue (R148). -/
inductive QueueEntry where
  | reserved
  | ready (cell : MgmtCell)
  deriving DecidableEq, Repr

/-- The holder of a lock domain and its lease count (R156). -/
structure Holder where
  manager : ManagerId
  tag : Tag
  lease : Nat
  deriving DecidableEq, Repr

/-- The four lock domains; none is FREE (R156). -/
structure LockTable where
  standby : Option Holder
  config : Option Holder
  capture : Option Holder
  profile : Option Holder
  deriving DecidableEq, Repr

/-- Response Queue, Load Contexts and Lock Table. -/
structure Management where
  queue : List QueueEntry
  contexts : Vector LoadContext 4
  locks : LockTable
  deriving DecidableEq, Repr

/-! Alert Unit (10 Table 10.1) -/

/-- The sixteen alert sources, in order of priority (10 Table 10.2). -/
inductive AlertSource where
  | restarted | shockEntered | loopRegained | targetMuted | commitRejected | commitDone | persistFailed | persistDone
  | lockExpired | targetDerated | deadlineMissed | pulseDropped | sledChanged | captureDone | profileAbsent | shockCleared
  deriving DecidableEq, Repr

/-- The ten counters, in item order (R168). -/
inductive CounterId where
  | outbCheck | retCheck | retMismatch | deadlineMiss | passOverrun | pulseDrop | cmdDeclined | holes | satPasses | shocks
  deriving DecidableEq, Repr

/-- Route of an alert source (R165). -/
inductive AlertRoute where
  | inBand | line | both
  deriving DecidableEq, Repr

/-- An item of the Alert Map (R165). -/
structure AlertItem where
  masked : Bool
  route : AlertRoute
  deriving DecidableEq, Repr

/-- Pending set, bit n for source n, and Alert Map (R163, R165). -/
structure AlertUnit where
  pending : BitVec 16
  map : Vector AlertItem 16
  deriving DecidableEq, Repr

/-! Capture Unit (11 Table 11.1) -/

/-- Correction status of an outbound half (R3), in the order of the codes of 09 Table 9.6. -/
inductive CellStatus where
  | off | fresh | held | muted | shock | settling
  deriving DecidableEq, Repr

/-- Capture state (11 Table 11.2). -/
inductive CaptureState where
  | idle | armed | filling | done
  deriving DecidableEq, Repr

/-- Trigger of a capture (R155, R172). -/
inductive Trigger where
  | immediate
  | seek (t : Slot)
  | shock
  deriving DecidableEq, Repr

/-- What one channel records for one frame (R171). -/
structure CaptureItem where
  sample : Option Word
  last : Word
  status : CellStatus
  deriving DecidableEq, Repr

/-- The completed items of one frame boundary, none for an absent channel (R171). -/
structure CaptureRow where
  frame : Word
  items : Vector (Option CaptureItem) 4
  deriving DecidableEq, Repr

/-- The items of a frame boundary that are begun and not completed: frame number, and the history entry of each channel's
slot (a hole for an absent channel) (R171). -/
structure BegunRow where
  frame : Word
  entries : Vector (Option Word) 4
  deriving DecidableEq, Repr

/-- State of the Capture Unit; the buffer's rows stand oldest first. -/
structure Capture where
  state : CaptureState
  channels : Vector (Option Slot) 4
  trigger : Trigger
  preTrigger : Nat
  rows : List CaptureRow
  begun : Option BegunRow
  kept : Nat
  remaining : Nat
  deriving DecidableEq, Repr

/-! Profile Store and start-up (12 Table 12.1) -/

/-- The stored contents of a profile, in the order of 12 Table 12.1. -/
structure ProfileImage where
  generation : Word
  bank : Bank
  slotMap : Vector (Option (Fin 64)) 64
  targets : SlotSet
  params : Limits
  alertMap : Vector AlertItem 16
  deriving DecidableEq, Repr

/-- Profile condition (R176). -/
inductive ProfileCondition where
  | blank | good | torn
  deriving DecidableEq, Repr

/-- What a PERSIST takes at its acceptance (R177). -/
structure Snapshot where
  generation : Word
  slotMap : Vector (Option (Fin 64)) 64
  targets : SlotSet
  params : Limits
  alertMap : Vector AlertItem 16
  deriving DecidableEq, Repr

/-- A PERSIST in progress: its snapshot and time count (R177, R178). -/
structure PersistRun where
  snapshot : Snapshot
  count : Nat
  deriving DecidableEq, Repr

/-- The non-volatile profile (recorded condition, contents, CRC-32), a PERSIST in progress, and profile found. -/
structure ProfileStore where
  condition : ProfileCondition
  image : Option ProfileImage
  crc : BitVec 32
  running : Option PersistRun
  found : Bool
  deriving DecidableEq, Repr

/-- Where the part stands between supply and operation (R7, R179, R180). -/
inductive Phase where
  /-- no supply -/
  | unpowered
  /-- supplied, RST_N low since power was applied: the power-up sequence waits at its start -/
  | waiting
  /-- the profile load of a power-up or FULL reset is going on -/
  | loading
  /-- no profile load is going on -/
  | running
  deriving DecidableEq, Repr

/-- Reason of the most recent reset (R154). -/
inductive ResetReason where
  | powerUp | full | warmLine | warmInband
  deriving DecidableEq, Repr

/-- Phase, level of RST_N (true for high), values sampled from the straps, reset reason. -/
structure StartUp where
  phase : Phase
  rstN : Bool
  node : BitVec 4
  startMode : ChosenMode
  reason : ResetReason
  deriving DecidableEq, Repr

/-! The whole part -/

/-- The state of the part, and the queue of commands that wait. -/
structure State where
  ports : LoopPorts
  slots : SlotUnit
  intake : Intake
  banks : BankUnit
  coupling : Coupling
  pool : List Pulse
  limit : LimitMonitor
  mgmt : Management
  alerts : AlertUnit
  /-- the ten counters, item n of the COUNTERS table (R168) -/
  counters : Vector Word 10
  capture : Capture
  profile : ProfileStore
  startUp : StartUp
  pending : List Instr
  deriving DecidableEq, Repr

/-- Reasons a step could stop with a fault: none. The spec describes no stop of the part, every command of its table
completes, and so nothing raises a fault (safe: there is nothing to lean on). -/
inductive Fault where
  deriving DecidableEq, Repr

/-- Reasons a step could be refused. -/
inductive Refusal where
  /-- Raised by an arm of exec whose command has no meaning yet, with the row's mnemonic. Safe: the model stops where the
  part goes on. No arm raises it now. -/
  | notModelled (mnemonic : String)
  deriving DecidableEq, Repr

/-! Values after reset -/

/-- Loop Ports after every reset, once the transparent span has ended (R20). -/
def LoopPorts.initial : LoopPorts :=
  { condition := .active, lock := .searching, candidate := none, badRun := 0, lastGood := none,
    frameMatch := .noFrame, composing := none, outbOut := none, retOut := none }

/-- The runtime record every reset gives a slot (R35, R36). -/
def SlotRecord.initial : SlotRecord := { state := .detached, settle := 0 }

/-- The default Slot Map, the identity (R35). -/
def identityMap : Vector (Option (Fin 64)) 64 := Vector.ofFn fun t => some t

/-- Slot Map unit with the defaults of R35. -/
def SlotUnit.initial : SlotUnit :=
  { map := identityMap, targets := BitVec.allOnes 64, records := Vector.replicate 64 SlotRecord.initial }

/-- A flushed history: 32 holes (R43). -/
def History.holes : History := Vector.replicate 32 none

/-- Sample Intake after every reset (R50). -/
def Intake.initial : Intake := { history := Vector.replicate 64 History.holes, head := none }

/-- A kernel as CLEAR_STANDBY leaves it (R69). -/
def Kernel.cleared : Kernel := { taps := Vector.replicate 16 0, defined := false }

/-- A bank as CLEAR_STANDBY leaves it (R69). -/
def Bank.cleared : Bank :=
  { rows := Vector.replicate 64 (Vector.replicate 8 none), kernels := Vector.replicate 128 Kernel.cleared,
    templates := Vector.replicate 8 (Vector.replicate 32 0) }

/-- Banks and Bank Engine when no profile is GOOD (R70, R146). -/
def BankUnit.initial : BankUnit :=
  { bankA := Bank.cleared, bankB := Bank.cleared, liveId := .a, generation := 0, standbyCondition := .clean,
    engine := .idle, progress := 0, operation := none, rejection := none }

/-- A target's record after every reset (R95). -/
def TargetRecord.initial : TargetRecord := { last := 0, stamp := none, fresh := false }

/-- Coupling Engine after every reset (R95). -/
def Coupling.initial : Coupling := { pass := none, targets := Vector.replicate 64 TargetRecord.initial }

/-- A target's limit record at NORMAL with nothing counted (R130). -/
def LimitRecord.initial : LimitRecord := { level := .normal, saturation := 0, recovery := 0 }

/-- The defaults of 07 Table 7.3. -/
def Limits.defaults : Limits :=
  { saturationThreshold := 64, recoveryPeriod := 8000, shockThreshold := 20000, shockQuorum := 6,
    shockHoldOff := 512, rowStability := 64 }

/-- Limit Monitor when no profile is GOOD (R130). -/
def LimitMonitor.initial : LimitMonitor :=
  { mode := .off, request := none, saved := none, shockSeen := false, holdOff := 0,
    records := Vector.replicate 64 LimitRecord.initial, muteSet := 0, params := Limits.defaults }

/-- A Load Context in state NONE (R160). -/
def LoadContext.initial : LoadContext := { table := none, index := 0, mode := .plain, state := .unselected }

/-- Management Interpreter and Lock Table after every reset (R160). -/
def Management.initial : Management :=
  { queue := [], contexts := Vector.replicate 4 LoadContext.initial,
    locks := { standby := none, config := none, capture := none, profile := none } }

/-- The default Alert Map: every source unmasked with route IN_BAND (R169). -/
def defaultAlertMap : Vector AlertItem 16 := Vector.replicate 16 { masked := false, route := .inBand }

/-- Capture Unit after every reset (R175); a cleared trigger is held as IMMEDIATE (log 1). -/
def Capture.initial : Capture :=
  { state := .idle, channels := Vector.replicate 4 none, trigger := .immediate, preTrigger := 0, rows := [],
    begun := none, kept := 0, remaining := 0 }

/-- A store that has never begun a PERSIST (R176), loaded and found absent. -/
def ProfileStore.initial : ProfileStore :=
  { condition := .blank, image := none, crc := 0, running := none, found := false }

/-- The part right after a power-up whose profile load has ended: the store was BLANK, so RESTARTED (0) and PROFILE_ABSENT
(14) are pending and the mode is OFF (R169, R179). The strap levels and the blank store are the model's choice (log 1). -/
def State.reset : State :=
  { ports := LoopPorts.initial
    slots := SlotUnit.initial
    intake := Intake.initial
    banks := BankUnit.initial
    coupling := Coupling.initial
    pool := []
    limit := LimitMonitor.initial
    mgmt := Management.initial
    alerts := { pending := 0x4001, map := defaultAlertMap }
    counters := Vector.replicate 10 0
    capture := Capture.initial
    profile := ProfileStore.initial
    startUp := { phase := .running, rstN := true, node := 0, startMode := .off, reason := .powerUp }
    pending := [] }

end Sys2Proof.Machine
end

