-- ==== Sys2Proof/Machine/Operands.lean ====
section
/-! DEFINITION. Layouts and encodings: every field of a frame, a slot cell, a management cell, a payload and a table item
(R161, R162, 09 Tables 9.5 to 9.10). Byte order is decided here and nowhere else: most significant byte first. -/

namespace Sys2Proof.Machine

/-! Bytes and words -/

/-- The more significant byte of a word. -/
def hiByte (w : Word) : Byte := w.extractLsb' 8 8

/-- The less significant byte of a word. -/
def loByte (w : Word) : Byte := w.extractLsb' 0 8

/-- The word of two bytes, most significant first (R162). -/
def wordOf (hi lo : Byte) : Word := hi ++ lo

/-- Payload bytes 2k and 2k + 1 as a word (R162). -/
def payloadWord (p : Vector Byte 8) (k : Fin 4) : Word := wordOf p[2 * k.val] p[2 * k.val + 1]

/-- A payload of four words (R162). -/
def payloadOfWords (a b c d : Word) : Vector Byte 8 :=
  #v[hiByte a, loByte a, hiByte b, loByte b, hiByte c, loByte c, hiByte d, loByte d]

/-- The all-zero payload (R150). -/
def zeroPayload : Vector Byte 8 := #v[0, 0, 0, 0, 0, 0, 0, 0]

/-- A byte with bit 0 set or clear. -/
def bit (b : Bool) : Byte := if b then 1 else 0

/-! CRC-32 (R161) -/

/-- One bit enters the register, which shifts toward its most significant bit: the direction in which 04C11DB7h is the polynomial,
read from R161, which does not name it (DEDUCED, log 19). -/
def crcBit (reg : BitVec 32) (b : Bool) : BitVec 32 :=
  if reg.msb != b then (reg <<< 1) ^^^ Config.crcPolynomial else reg <<< 1

/-- One byte enters the register, least significant bit first. -/
def crcByte (reg : BitVec 32) (x : Byte) : BitVec 32 :=
  (List.range 8).foldl (fun r i => crcBit r (x.getLsbD i)) reg

/-- CRC-32 of a list of bytes: preset FFFFFFFFh, final value complemented, and not reflected, since R161 names no reflection
(DEDUCED, log 19). -/
def crc32 (bytes : List Byte) : BitVec 32 := ~~~(bytes.foldl crcByte 0xFFFFFFFF)

/-! Frames (09 Table 9.5) -/

/-- The 7 bytes of a slot cell (09 Table 9.6). -/
def slotCellBytes (c : SlotCell) : List Byte :=
  [hiByte c.correction, loByte c.correction, c.status, c.flags, hiByte c.sample, loByte c.sample, c.notice]

/-- The 13 bytes of a management cell (09 Table 9.7). -/
def mgmtCellBytes (c : MgmtCell) : List Byte :=
  [c.head, c.tagByte, c.seq, c.code, c.status] ++ c.payload.toList

/-- Bytes 2 to 558 of a frame, over which the check is computed (R161). -/
def checkedBytes (f : Frame) : List Byte :=
  [hiByte f.number, loByte f.number, f.used, hiByte f.alert, loByte f.alert] ++
    f.cells.toList.flatMap slotCellBytes ++ f.commands.toList.flatMap mgmtCellBytes ++
    f.responses.toList.flatMap mgmtCellBytes

/-- The 563 bytes of a frame on the line (09 Table 9.5). -/
def frameBytes (f : Frame) : List Byte :=
  [0x5A, 0xC3] ++ checkedBytes f ++
    [f.check.extractLsb' 24 8, f.check.extractLsb' 16 8, f.check.extractLsb' 8 8, f.check.extractLsb' 0 8]

/-- A used-cell count of 1 to 64 is valid; any other makes the frame malformed (R1). -/
def validUsed (f : Frame) : Bool := 1 ≤ f.used.toNat && f.used.toNat ≤ 64

/-- A frame has a good check when it carries the check of its contents and is not malformed (R6). -/
def goodCheck (f : Frame) : Bool := validUsed f && f.check == crc32 (checkedBytes f)

/-- The check computed anew over changed contents (R6). -/
def regenerate (f : Frame) : Frame := { f with check := crc32 (checkedBytes f) }

/-! Slot cells (09 Table 9.6) -/

/-- Present flag of a return half. -/
def isPresent (c : SlotCell) : Bool := c.flags.getLsbD 0

/-- Sensor-valid flag of a return half. -/
def isSensorValid (c : SlotCell) : Bool := c.flags.getLsbD 1

/-- Notice flag of a return half. -/
def hasNotice (c : SlotCell) : Bool := c.flags.getLsbD 2

/-- Direction of the seek notice. -/
def noticeDirection (c : SlotCell) : Direction := if c.flags.getLsbD 3 then .outward else .inward

/-- Length class of the seek notice, bits 2 to 0 of byte 6. -/
def noticeClass (c : SlotCell) : Fin 8 := (c.notice.extractLsb' 0 3).toFin

/-- Lead of the seek notice, bits 7 to 4 of byte 6. -/
def noticeLead (c : SlotCell) : BitVec 4 := c.notice.extractLsb' 4 4

/-- Code of a correction status. -/
def statusCode : CellStatus → Byte
  | .off => 0 | .fresh => 1 | .held => 2 | .muted => 3 | .shock => 4 | .settling => 5

/-- A slot cell with its outbound half written (R3). -/
def writeOutbound (c : SlotCell) (correction : Word) (st : CellStatus) : SlotCell :=
  { c with correction := correction, status := statusCode st }

/-! Management cells (09 Table 9.7) -/

/-- Kind, bits 1 to 0 of byte 0. -/
def cellKind (c : MgmtCell) : CellKind :=
  match c.head.getLsbD 1, c.head.getLsbD 0 with
  | false, false => .empty
  | false, true => .command
  | true, false => .response
  | true, true => .declined

/-- Manager id, bits 3 to 2 of byte 0. -/
def cellManager (c : MgmtCell) : ManagerId := (c.head.extractLsb' 2 2).toFin

/-- Destination, bits 7 to 4 of byte 0. -/
def cellDestination (c : MgmtCell) : BitVec 4 := c.head.extractLsb' 4 4

/-- Lock tag, bits 6 to 0 of byte 1. -/
def cellTag (c : MgmtCell) : Tag := c.tagByte.extractLsb' 0 7

/-- What a taken cell hands to the Management Interpreter, beside its command code (R148). -/
def cellRequest (c : MgmtCell) : Request :=
  { manager := cellManager c, tag := cellTag c, seq := c.seq, payload := c.payload }

/-- A command cell is addressed to the part by its node number or by 15 (R5). -/
def addressedTo (node : BitVec 4) (c : MgmtCell) : Bool :=
  cellKind c == .command && (cellDestination c == node || cellDestination c == Config.broadcastNode)

/-- The EMPTY cell: every field zero (R5). -/
def emptyCell : MgmtCell :=
  { head := 0, tagByte := 0, seq := 0, code := 0, status := 0, payload := zeroPayload }

/-- A cell re-marked DECLINED, its other fields as received (R12). -/
def declineCell (c : MgmtCell) : MgmtCell := { c with head := c.head ||| 3 }

/-- Code of a response status. -/
def answerCode : Answer → Byte
  | .ok => 0 | .accepted => 1 | .busy => 2 | .notHolder => 3 | .lockHeld => 4 | .range => 5 | .badTable => 6
  | .badMode => 7 | .badValue => 8 | .torn => 9 | .empty => 10

/-- What a command answers: status, item flag, payload (R150, R153). -/
structure Reply where
  answer : Answer
  itemFlag : Bool
  payload : Vector Byte 8
  deriving DecidableEq, Repr

/-- A reply with the all-zero payload (R150). -/
def plainReply (a : Answer) : Reply := { answer := a, itemFlag := false, payload := zeroPayload }

/-- A reply OK with a payload. -/
def okReply (p : Vector Byte 8) : Reply := { answer := .ok, itemFlag := false, payload := p }

/-- The response cell of the part with node number `node` to the command `code` of request `r` (R5, R150). -/
def responseCell (node : BitVec 4) (code : Byte) (r : Request) (a : Reply) : MgmtCell :=
  { head := node ++ BitVec.ofNat 2 r.manager ++ (2 : BitVec 2)
    tagByte := (0 : BitVec 1) ++ r.tag
    seq := r.seq
    code := code
    status := answerCode a.answer ||| (if a.itemFlag then 0x80 else 0)
    payload := a.payload }

/-! The alert field (09 Table 9.5) -/

/-- Byte 5 bit 7: the alert field is occupied. -/
def alertOccupied (alert : Word) : Bool := alert.getLsbD 15

/-- Byte 5 bits 3 to 0: the source. -/
def alertSource (alert : Word) : Nat := (alert.extractLsb' 8 4).toNat

/-- The alert field that reports a source from a node. -/
def alertField (source : Nat) (node : BitVec 4) : Word :=
  (8 : BitVec 4) ++ BitVec.ofNat 4 source ++ (0 : BitVec 4) ++ node

/-! Codes of commands, tables, modes, domains (09 Tables 9.2, 9.7, 9.8) -/

/-- Domain of a domain code (09 Table 9.8). -/
def domainOfCode (b : Byte) : Option Domain :=
  match b.toNat with
  | 0 => some .standby | 1 => some .config | 2 => some .capture | 3 => some .profile | _ => none

/-- Code of a table (09 Table 9.2). -/
def tableCode : Table → Byte
  | .standbyCt => 0 | .standbyKernel => 1 | .standbyTemplate => 2 | .liveCt => 3 | .liveKernel => 4
  | .liveTemplate => 5 | .slotmap => 6 | .targets => 7 | .mutes => 8 | .limits => 9 | .alertmap => 10 | .pulses => 11
  | .counters => 12 | .capture => 13

/-- Table of a table code (09 Table 9.2). -/
def tableOfCode (b : Byte) : Option Table :=
  match b.toNat with
  | 0 => some .standbyCt | 1 => some .standbyKernel | 2 => some .standbyTemplate | 3 => some .liveCt
  | 4 => some .liveKernel | 5 => some .liveTemplate | 6 => some .slotmap | 7 => some .targets | 8 => some .mutes
  | 9 => some .limits | 10 => some .alertmap | 11 => some .pulses | 12 => some .counters | 13 => some .capture
  | _ => none

/-- Item count of a table (09 Table 9.2). -/
def itemCount : Table → Nat
  | .standbyCt => 512 | .standbyKernel => 512 | .standbyTemplate => 64 | .liveCt => 512 | .liveKernel => 512
  | .liveTemplate => 64 | .slotmap => 64 | .targets => 1 | .mutes => 1 | .limits => 6 | .alertmap => 16 | .pulses => 24
  | .counters => 10 | .capture => 1024

/-- Domain a DATA command on the table needs, none for a read-only table (09 Table 9.2). -/
def tableDomain : Table → Option Domain
  | .standbyCt => some .standby | .standbyKernel => some .standby | .standbyTemplate => some .standby
  | .slotmap => some .config | .targets => some .config | .mutes => some .config | .limits => some .config
  | .alertmap => some .config
  | .liveCt => none | .liveKernel => none | .liveTemplate => none | .pulses => none | .counters => none
  | .capture => none

/-- Whether a table admits a mode (09 Table 9.2). -/
def admitsMode (t : Table) (m : ContextMode) : Bool :=
  match t with
  | .standbyCt => m == .replace || m == .add
  | .standbyKernel => m == .replace || m == .add
  | .standbyTemplate => m == .replace || m == .add
  | .slotmap => m == .replace
  | .targets => m == .replace || m == .set || m == .clear
  | .mutes => m == .set || m == .clear
  | .limits => m == .replace
  | .alertmap => m == .replace
  | .liveCt => m == .plain
  | .liveKernel => m == .plain
  | .liveTemplate => m == .plain
  | .pulses => m == .plain
  | .counters => m == .plain
  | .capture => m == .plain

/-- Code of a context mode (09 Table 9.8). -/
def modeCode : ContextMode → Byte
  | .plain => 0 | .replace => 1 | .add => 2 | .set => 3 | .clear => 4

/-- Context mode of a mode code (09 Table 9.8). -/
def modeOfCode (b : Byte) : Option ContextMode :=
  match b.toNat with
  | 0 => some .plain | 1 => some .replace | 2 => some .add | 3 => some .set | 4 => some .clear | _ => none

/-- Mode a MODE command requests (09 Table 9.8): other values are refused. -/
def chosenOfCode (b : Byte) : Option ChosenMode :=
  match b.toNat with
  | 0 => some .off | 1 => some .run | 2 => some .freeze | _ => none

/-! Items (09 Table 9.9) -/

/-- The fields of a Coupling Table item as written. -/
structure CtItem where
  present : Bool
  pulsePresent : Bool
  source : Byte
  kernel : Byte
  delay : Byte
  gain : Word
  pulseGain : Word
  deriving DecidableEq, Repr

/-- A Coupling Table item of a payload. -/
def ctItemOf (p : Vector Byte 8) : CtItem :=
  { present := p[0].getLsbD 0, pulsePresent := p[0].getLsbD 1, source := p[1], kernel := p[2], delay := p[3],
    gain := payloadWord p 2, pulseGain := payloadWord p 3 }

/-- A Coupling Table position as read: an absent position and an absent pulse gain read as 0 (R59). -/
def ctPayload : Option Entry → Vector Byte 8
  | none => zeroPayload
  | some e =>
    let pg := e.pulseGain.getD 0
    #v[if e.pulseGain.isSome then 3 else 1, BitVec.ofNat 8 e.source, BitVec.ofNat 8 e.kernel, BitVec.ofNat 8 e.delay,
      hiByte e.gain, loByte e.gain, hiByte pg, loByte pg]

/-- The set of slots of a payload: byte k bit b for slot 8k + b. -/
def setOfPayload (p : Vector Byte 8) : SlotSet :=
  p[7] ++ p[6] ++ p[5] ++ p[4] ++ p[3] ++ p[2] ++ p[1] ++ p[0]

/-- The payload of a set of slots. -/
def payloadOfSet (s : SlotSet) : Vector Byte 8 :=
  #v[s.extractLsb' 0 8, s.extractLsb' 8 8, s.extractLsb' 16 8, s.extractLsb' 24 8, s.extractLsb' 32 8,
    s.extractLsb' 40 8, s.extractLsb' 48 8, s.extractLsb' 56 8]

/-- Code of a runtime state. -/
def slotStateCode : SlotState → Byte
  | .detached => 0 | .settling => 1 | .attached => 2

/-- A SLOTMAP item as read: cell or FFh, runtime state, settle count (R24). -/
def slotmapPayload (cell : Option (Fin 64)) (r : SlotRecord) : Vector Byte 8 :=
  let count := BitVec.ofNat 16 r.settle
  #v[match cell with | some c => BitVec.ofNat 8 c | none => 0xFF, slotStateCode r.state, hiByte count, loByte count, 0, 0, 0, 0]

/-- A payload that holds one word in bytes 0 to 1. -/
def wordPayload (w : Word) : Vector Byte 8 := payloadOfWords w 0 0 0

/-- Code of a route. -/
def routeCode : AlertRoute → Byte
  | .inBand => 0 | .line => 1 | .both => 2

/-- Route of a route code. -/
def routeOfCode (b : Byte) : Option AlertRoute :=
  match b.toNat with
  | 0 => some .inBand | 1 => some .line | 2 => some .both | _ => none

/-- An ALERTMAP item. -/
def alertPayload (i : AlertItem) : Vector Byte 8 := #v[bit i.masked, routeCode i.route, 0, 0, 0, 0, 0, 0]

/-- A PULSES item: an absent item reads as 0 (R113). -/
def pulsePayload : Option Pulse → Vector Byte 8
  | none => zeroPayload
  | some q =>
    let b1 : Byte := match q.direction with | .inward => 0 | .outward => 2
    let b2 : Byte := match q.play with | .pending => 0 | .playing => 4
    #v[1 ||| b1 ||| b2, BitVec.ofNat 8 q.source, BitVec.ofNat 8 q.lengthClass, BitVec.ofInt 8 q.position,
      hiByte q.onset, loByte q.onset, 0, 0]

/-- A CAPTURE item: a hole reads as value 0 with the hole mark. -/
def capturePayload (frame : Word) (c : CaptureItem) : Vector Byte 8 :=
  let v := c.sample.getD 0
  #v[hiByte v, loByte v, bit c.sample.isNone, hiByte c.last, loByte c.last, statusCode c.status, hiByte frame, loByte frame]

/-! The STATUS payload (09 Table 9.10) -/

/-- Code of the operating mode. -/
def operatingCode : OperatingMode → BitVec 2
  | .off => 0 | .run => 1 | .freeze => 2 | .shockHold => 3

/-- Code of a mode request or saved mode. -/
def chosenCode : Option ChosenMode → BitVec 2
  | none => 0 | some .off => 1 | some .run => 2 | some .freeze => 3

/-- Code of a bank identity. -/
def bankCode : BankId → BitVec 1
  | .a => 0 | .b => 1

/-- Code of the Bank Engine state. -/
def engineCode : EngineState → BitVec 2
  | .idle => 0 | .validating => 1 | .swapPending => 2 | .resync => 3

/-- Code of the standby condition. -/
def standbyCode : StandbyCondition → BitVec 1
  | .clean => 0 | .torn => 1

/-- Code of the operation kind. -/
def operationCode : Option OperationKind → BitVec 2
  | none => 0 | some .commit => 1 | some .resync => 2

/-- Code of the reset reason. -/
def reasonCode : ResetReason → BitVec 2
  | .powerUp => 0 | .full => 1 | .warmLine => 2 | .warmInband => 3

/-- Byte 5: rejection row and reason. Without a rejection record the reason is 0, and the row bits, which Table 9.10 leaves open then,
are 0 (DESIGN CHOICE, log 22). -/
def rejectionByte : Option Rejection → Byte
  | none => 0
  | some j =>
    let reason : BitVec 2 := match j.reason with | .undefinedKernel => 1 | .badEntry => 2 | .unstable => 3
    reason ++ BitVec.ofNat 6 j.row

/-- Code of the profile condition. -/
def profileCode : ProfileCondition → BitVec 2
  | .blank => 0 | .good => 1 | .torn => 2

/-- The STATUS payload of a state (R154). -/
def statusPayload (s : State) : Vector Byte 8 :=
  let l := s.limit
  let b := s.banks
  let w : Word := (0 : BitVec 1) ++ profileCode s.profile.condition ++ BitVec.ofNat 13 l.holdOff
  #v[bankCode b.liveId ++ BitVec.ofBool l.shockSeen ++ chosenCode l.saved ++ chosenCode l.request ++ operatingCode l.mode,
    hiByte b.generation, loByte b.generation,
    BitVec.ofBool s.profile.running.isSome ++ reasonCode s.startUp.reason ++ operationCode b.operation ++
      standbyCode b.standbyCondition ++ engineCode b.engine,
    BitVec.ofNat 8 b.progress, rejectionByte b.rejection, hiByte w, loByte w]

/-! The stored profile (R176) -/

/-- The bytes of the Limit Parameters, in item order. -/
def limitsBytes (p : Limits) : List Byte :=
  [p.saturationThreshold, p.recoveryPeriod, p.shockThreshold, p.shockQuorum, p.shockHoldOff, p.rowStability].flatMap
    fun w => [hiByte w, loByte w]

/-- The bytes of a bank: the items of its tables in item order, each kernel followed by its defined flag. -/
def bankBytes (b : Bank) : List Byte :=
  b.rows.toList.flatMap (fun row => row.toList.flatMap fun e => (ctPayload e).toList) ++
    b.kernels.toList.flatMap (fun k => k.taps.toList.flatMap (fun w => [hiByte w, loByte w]) ++ [bit k.defined]) ++
    b.templates.toList.flatMap (fun t => t.toList.flatMap fun w => [hiByte w, loByte w])

/-- The stored contents in the order of 12 Table 12.1, each in its item layout (log 9). -/
def profileBytes (p : ProfileImage) : List Byte :=
  [hiByte p.generation, loByte p.generation] ++ bankBytes p.bank ++
    p.slotMap.toList.map (fun c => match c with | some c => BitVec.ofNat 8 c | none => 0xFF) ++
    (payloadOfSet p.targets).toList ++ limitsBytes p.params ++
    p.alertMap.toList.flatMap (fun i => [bit i.masked, routeCode i.route])

end Sys2Proof.Machine
end

