-- ==== Sys2Proof/Machine/Flags.lean ====
section
/-! DEFINITION. Arithmetic, marks and derived conditions: rounding, saturation, derating, the clamp, gaps of frame numbers,
the play index, freshness, the stale mark, the report and ALERT_N. -/

namespace Sys2Proof.Machine

/-! Rounding and saturation -/

/-- round14: floor of (v + 8,192) / 16,384 (R77). -/
def round14 (v : Int) : Int := (v + 8192).fdiv 16384

/-- A sum held within the signed 16-bit limits (R62). -/
def saturate16 (v : Int) : Word := if 32767 < v then 32767 else if v < -32768 then -32768 else BitVec.ofInt 16 v

/-- Saturated sum of two signed words (R62, R64, R65). -/
def addSaturated (a b : Word) : Word := saturate16 (a.toInt + b.toInt)

/-- The value derated by the target's limit level (R79). -/
def derate (level : LimitLevel) (v : Int) : Int :=
  match level with
  | .normal => v
  | .level1 => (v + 1).fdiv 2
  | .level2 => (v + 2).fdiv 4
  | .muted => v

/-- The derated value is saturated when it lies outside ±32,767 (R80). -/
def isSaturated (v : Int) : Bool := 32767 < v || v < -32767

/-- The derated value clamped to the range of a correction (R80). -/
def clampCorrection (v : Int) : Word :=
  if 32767 < v then 32767 else if v < -32767 then -32767 else BitVec.ofInt 16 v

/-- An increment of a 16-bit count that holds at 65,535 (R168). -/
def countUp (c : Word) (n : Nat) : Word := if c.toNat + n < 65536 then c + BitVec.ofNat 16 n else 65535

/-! Frame numbers -/

/-- Frame numbers skipped between p and m: m - p - 1 modulo 65,536 (R11). -/
def frameGap (p m : Word) : Nat := (m - p - 1).toNat

/-- Play index of an instance with this onset for frame m, none when expired (R97). -/
def playIndex (onset m : Word) : Option Int :=
  let d := (m + 1 - onset).toNat
  if d < Config.templateLength then some d
  else if 65522 ≤ d then some (d - 65536)
  else none

/-- Play state of a play index (R97). -/
def playState (j : Int) : PlayState := if 0 ≤ j then .playing else .pending

/-! Histories -/

/-- A history with a new entry at age 0 (R38). -/
def pushEntry (h : History) (e : Option Word) : History :=
  Vector.ofFn fun i : Fin 32 => if i.val = 0 then e else h[i.val - 1]

/-- A history is stale when its four newest entries are holes (R42). -/
def isStale (h : History) : Bool := h[0].isNone && h[1].isNone && h[2].isNone && h[3].isNone

/-- The entry for frame j of a history with this head (R41): none is a hole. -/
def readHistory (h : History) (head : Option Word) (j : Word) : Option Word :=
  match head with
  | none => none
  | some n => let a := (n - j).toNat; if hlt : a < 32 then h[a] else none

/-- The value of a history entry; a hole has value 0 (R37). -/
def entryValue (e : Option Word) : Int := (e.getD 0).toInt

/-- A sample reaches the shock threshold when its magnitude is at least that (R46). -/
def reachesThreshold (threshold : Word) (e : Option Word) : Bool :=
  match e with
  | none => false
  | some v => threshold.toNat ≤ v.toInt.natAbs

/-! Correction cells -/

/-- The last correction is fresh for frame n when its mark is set and its stamp is n - 1 (R83). -/
def isFresh (t : TargetRecord) (n : Word) : Bool := t.fresh && t.stamp == some (n - 1)

/-! Limit Parameters -/

/-- The Limit Parameter of an item, with its range (07 Table 7.3). -/
def limitRange : Nat → Option (Nat × Nat)
  | 0 => some (8, 1024) | 1 => some (256, 65535) | 2 => some (1000, 32767) | 3 => some (1, 64) | 4 => some (16, 4096)
  | 5 => some (1, 255) | _ => none

/-- Whether a value lies in the range of an item (R129). -/
def limitInRange (item : Nat) (v : Word) : Bool :=
  match limitRange item with
  | some (lo, hi) => lo ≤ v.toNat && v.toNat ≤ hi
  | none => false

/-- The value of a LIMITS item (R129). -/
def limitItem (p : Limits) : Nat → Word
  | 0 => p.saturationThreshold | 1 => p.recoveryPeriod | 2 => p.shockThreshold | 3 => p.shockQuorum
  | 4 => p.shockHoldOff | 5 => p.rowStability | _ => 0

/-- The Limit Parameters with one item replaced (R129). -/
def setLimitItem (p : Limits) (item : Nat) (v : Word) : Limits :=
  match item with
  | 0 => { p with saturationThreshold := v } | 1 => { p with recoveryPeriod := v }
  | 2 => { p with shockThreshold := v } | 3 => { p with shockQuorum := v }
  | 4 => { p with shockHoldOff := v } | 5 => { p with rowStability := v } | _ => p

/-! Alerts -/

/-- Number, that is priority, of a source (R163). -/
def sourceNumber : AlertSource → Fin 16
  | .restarted => 0 | .shockEntered => 1 | .loopRegained => 2 | .targetMuted => 3 | .commitRejected => 4
  | .commitDone => 5 | .persistFailed => 6 | .persistDone => 7 | .lockExpired => 8 | .targetDerated => 9
  | .deadlineMissed => 10 | .pulseDropped => 11 | .sledChanged => 12 | .captureDone => 13 | .profileAbsent => 14
  | .shockCleared => 15

/-- A route reports in-band (R165). -/
def routesInBand : AlertRoute → Bool
  | .inBand => true | .line => false | .both => true

/-- A route reports on the line (R165). -/
def routesLine : AlertRoute → Bool
  | .inBand => false | .line => true | .both => true

/-- Source n is pending, unmasked and routed in-band (R165). -/
def reportsInBand (u : AlertUnit) (n : Fin 16) : Bool :=
  u.pending.getLsbD n && !u.map[n].masked && routesInBand u.map[n].route

/-- Source n is pending, unmasked and routed to the line (R165). -/
def reportsOnLine (u : AlertUnit) (n : Fin 16) : Bool :=
  u.pending.getLsbD n && !u.map[n].masked && routesLine u.map[n].route

/-- The report: the source of highest priority that qualifies (R166). -/
def alertReport (u : AlertUnit) : Option (Fin 16) := (List.finRange 16).find? (reportsInBand u)

/-- ALERT_N is asserted, driven low, while some source is reported on the line (R167). -/
def alertAsserted (u : AlertUnit) : Bool := (List.finRange 16).any (reportsOnLine u)

/-- The alert field after the comparison with the part's report (R166). -/
def mergeAlert (received : Word) (report : Option (Fin 16)) (node : BitVec 4) : Word :=
  match report with
  | none => received
  | some n => if alertOccupied received && decide (alertSource received ≤ n.val) then received else alertField n.val node

/-- Item number of a counter (R168). -/
def counterItem : CounterId → Fin 10
  | .outbCheck => 0 | .retCheck => 1 | .retMismatch => 2 | .deadlineMiss => 3 | .passOverrun => 4 | .pulseDrop => 5
  | .cmdDeclined => 6 | .holes => 7 | .satPasses => 8 | .shocks => 9

/-! Mode conversions -/

/-- A chosen mode as an operating mode (R115, R116). -/
def ChosenMode.operating : ChosenMode → OperatingMode
  | .off => .off | .run => .run | .freeze => .freeze

/-- The chosen mode an operating mode is, none for SHOCK_HOLD (R117). -/
def OperatingMode.chosen : OperatingMode → Option ChosenMode
  | .off => some .off | .run => some .run | .freeze => some .freeze | .shockHold => none

end Sys2Proof.Machine
end

