-- ==== Sys2Proof/Machine/Ops.lean ====
section
/-! DEFINITION. Operations that several blocks share: one setter per block, alerts and counters, holes and flushes, detach,
banks by role, locks and leases, Load Contexts, and the taking of a command cell with its answer. -/

namespace Sys2Proof.Machine

/-! One setter per block -/

def State.setPorts (s : State) (x : LoopPorts) : State := { s with ports := x }
def State.setSlots (s : State) (x : SlotUnit) : State := { s with slots := x }
def State.setIntake (s : State) (x : Intake) : State := { s with intake := x }
def State.setBanks (s : State) (x : BankUnit) : State := { s with banks := x }
def State.setCoupling (s : State) (x : Coupling) : State := { s with coupling := x }
def State.setPool (s : State) (x : List Pulse) : State := { s with pool := x }
def State.setLimit (s : State) (x : LimitMonitor) : State := { s with limit := x }
def State.setMgmt (s : State) (x : Management) : State := { s with mgmt := x }
def State.setAlerts (s : State) (x : AlertUnit) : State := { s with alerts := x }
def State.setCounters (s : State) (x : Vector Word 10) : State := { s with counters := x }
def State.setCapture (s : State) (x : Capture) : State := { s with capture := x }
def State.setProfile (s : State) (x : ProfileStore) : State := { s with profile := x }
def State.setStartUp (s : State) (x : StartUp) : State := { s with startUp := x }
def State.setPending (s : State) (x : List Instr) : State := { s with pending := x }

/-! Alerts and counters -/

/-- A block raises a source: it becomes pending, and nothing else changes (R163). -/
def raiseAlert (a : AlertSource) (s : State) : State :=
  s.setAlerts { s.alerts with pending := s.alerts.pending ||| (1 <<< (sourceNumber a).val) }

/-- A source raised under a condition. -/
def raiseIf (b : Bool) (a : AlertSource) (s : State) : State := if b then raiseAlert a s else s

/-- A counter is incremented n times (R168). -/
def bump (c : CounterId) (n : Nat) (s : State) : State :=
  s.setCounters (s.counters.set (counterItem c) (countUp s.counters[counterItem c] n))

/-- The level of ALERT_N: true while the line is driven low (R167). -/
def State.alertN (s : State) : Bool := alertAsserted s.alerts

/-! The loop -/

/-- The ports are ACTIVE and LOCKED: passages are handled and frame boundaries occur (R9, R16). -/
def onLoop (s : State) : Bool := s.ports.condition == .active && s.ports.lock == .locked

/-! Slot Map -/

/-- The logical slot a map carries in a physical cell, if any (R21). -/
def slotAt (map : Vector (Option (Fin 64)) 64) (cell : Fin 64) : Option Slot :=
  (List.finRange 64).find? fun t => map[t] == some cell

/-- The return half of a slot's mapped cell when that cell is used in the frame (R2, R27). -/
def returnHalf (f : Frame) (map : Vector (Option (Fin 64)) 64) (t : Slot) : Option SlotCell :=
  match map[t] with
  | some c => if c.val < f.used.toNat then some f.cells[c] else none
  | none => none

/-! Holes and flushes -/

/-- Every slot is given a hole for frame j without a frame boundary; HOLES counts the ATTACHED slots (R40, R48). -/
def giveHole (j : Word) (s : State) : State :=
  bump .holes ((List.finRange 64).countP fun t => s.slots.records[t].state == .attached)
    (s.setIntake { history := Vector.ofFn fun t : Fin 64 => pushEntry s.intake.history[t] none, head := some j })

/-- A flush of one slot (R43). -/
def flushSlot (t : Slot) (s : State) : State :=
  s.setIntake { s.intake with history := s.intake.history.set t History.holes }

/-- A flush of all slots; the head frame number stays (R43). -/
def flushAll (s : State) : State :=
  s.setIntake { s.intake with history := Vector.replicate 64 History.holes }

/-- The pulse instance of a slot leaves the pool (R109). -/
def removePulse (t : Slot) (s : State) : State := s.setPool (s.pool.filter fun q => q.source != t)

/-- Detach of a SETTLING or ATTACHED slot between frame boundaries (R31). -/
def detachSlot (t : Slot) (s : State) : State :=
  raiseAlert .sledChanged (removePulse t (flushSlot t
    (s.setSlots { s.slots with records := s.slots.records.set t SlotRecord.initial })))

/-! Banks by role (R51) -/

/-- The bank of an identity. -/
def bankOf (u : BankUnit) : BankId → Bank
  | .a => u.bankA
  | .b => u.bankB

/-- The identity of the other bank. -/
def otherBank : BankId → BankId
  | .a => .b
  | .b => .a

/-- The live bank. -/
def liveBank (u : BankUnit) : Bank := bankOf u u.liveId

/-- The standby bank. -/
def standbyBank (u : BankUnit) : Bank := bankOf u (otherBank u.liveId)

/-- The unit with other contents in its standby bank. -/
def setStandby (u : BankUnit) (b : Bank) : BankUnit :=
  match u.liveId with
  | .a => { u with bankB := b }
  | .b => { u with bankA := b }

/-! Locks (R156, R158) -/

/-- The holder of a domain, none when it is FREE. -/
def lockOf (l : LockTable) : Domain → Option Holder
  | .standby => l.standby
  | .config => l.config
  | .capture => l.capture
  | .profile => l.profile

/-- The table with one domain set. -/
def setLock (l : LockTable) (d : Domain) (h : Option Holder) : LockTable :=
  match d with
  | .standby => { l with standby := h }
  | .config => { l with config := h }
  | .capture => { l with capture := h }
  | .profile => { l with profile := h }

/-- A holder is the manager id and tag of a request; a tag of 0 matches no holder (R148). -/
def isHolder (r : Request) (h : Option Holder) : Bool :=
  match h with
  | some h => r.tag != 0 && h.manager == r.manager && h.tag == r.tag
  | none => false

/-- The request holds the domain. -/
def holds (r : Request) (d : Domain) (s : State) : Bool := isHolder r (lockOf s.mgmt.locks d)

/-- The lease count of a domain the request holds becomes 0. -/
def renewLease (r : Request) (h : Option Holder) : Option Holder :=
  if isHolder r h then h.map fun x => { x with lease := 0 } else h

/-- A taken command renews every domain held by its manager id and tag (R158). -/
def renewLeases (r : Request) (s : State) : State :=
  let l := s.mgmt.locks
  s.setMgmt { s.mgmt with locks :=
    { standby := renewLease r l.standby, config := renewLease r l.config, capture := renewLease r l.capture,
      profile := renewLease r l.profile } }

/-! Load Contexts (R151 to R153) -/

/-- The Load Context of the request's manager. -/
def contextOf (r : Request) (s : State) : LoadContext := s.mgmt.contexts[r.manager]

/-- The request's Load Context replaced. -/
def setContext (r : Request) (c : LoadContext) (s : State) : State :=
  s.setMgmt { s.mgmt with contexts := s.mgmt.contexts.set r.manager c }

/-- A context after its item was written or read: the index advances, and at the item count it is EXHAUSTED (R152). -/
def advanceContext (t : Table) (c : LoadContext) : LoadContext :=
  { c with index := c.index + 1, state := if c.index + 1 = itemCount t then .exhausted else .opened }

/-- The context is OPEN on the table. -/
def openOn (t : Table) (c : LoadContext) : Bool := c.state == .opened && c.table == some t

/-! Taking a command cell -/

/-- A decided command's answer joins the tail of the Response Queue (R148, R149). -/
def enqueue (code : Byte) (r : Request) (a : Reply) (s : State) : State :=
  s.setMgmt { s.mgmt with queue := s.mgmt.queue ++ [.ready (responseCell s.startUp.node code r a)] }

/-- A taken cell: its leases are renewed, it is decided, and its answer is queued (R148, R158). -/
def answerCommand (code : Byte) (r : Request) (decision : State → State × Reply) (s : State) : State :=
  let d := decision (renewLeases r s)
  enqueue code r d.2 d.1

/-- An entry of the Response Queue is free (R12). -/
def entryFree (s : State) : Bool := s.mgmt.queue.length < Config.queueCapacity

/-- A command cell addressed to the part reaches it: off the loop it passes by, with the queue full it is declined, and
otherwise it is taken (R12). A row sent alone while a passage is in composition is taken at once, also behind a RESET taken in that
passage (DESIGN CHOICE, log 21). -/
def takeCommand (code : Byte) (r : Request) (decision : State → State × Reply) (s : State) : State :=
  if onLoop s then
    if entryFree s then answerCommand code r decision s else bump .cmdDeclined 1 s
  else s

/-- A refusal, or an answer without effect. -/
def unchanged (a : Answer) (s : State) : State × Reply := (s, plainReply a)

end Sys2Proof.Machine
end

