-- ==== Sys2Proof/Machine/Limit.lean ====
section
/-! DEFINITION. The Limit Monitor: saturation results and the derate ladder, the Mute Set, the resulting mode of a frame
boundary with shock entry and exit, and the level reset at a bank swap (chapter 7). -/

namespace Sys2Proof.Machine

/-! The derate ladder (R120, R121) -/

/-- The level below a level; MUTED is the last. -/
def levelDown : LimitLevel → LimitLevel
  | .normal => .level1
  | .level1 => .level2
  | .level2 => .muted
  | .muted => .muted

/-- The level above a derated level (R121). -/
def levelUp : LimitLevel → LimitLevel
  | .level2 => .level1
  | .level1 => .normal
  | .normal => .normal
  | .muted => .muted

/-- A target's record after one saturation result (R120). -/
def applyResult (p : Limits) (saturated : Bool) (r : LimitRecord) : LimitRecord :=
  match r.level, saturated with
  | .muted, _ => r
  | level, true =>
    if p.saturationThreshold.toNat ≤ r.saturation + 4 then { level := levelDown level, saturation := 0, recovery := 0 }
    else { r with saturation := r.saturation + 4, recovery := 0 }
  | .normal, false => { r with saturation := r.saturation - 1 }
  | level, false =>
    if p.recoveryPeriod.toNat ≤ r.recovery + 1 then
      { level := levelUp level, saturation := r.saturation - 1, recovery := 0 }
    else { r with saturation := r.saturation - 1, recovery := r.recovery + 1 }

/-- The set with a slot added. -/
def addSlot (m : SlotSet) (t : Slot) : SlotSet := m ||| (1 <<< t.val)

/-- The Coupling Engine hands a saturation result to the Limit Monitor (R120): a step down raises TARGET_DERATED, or
TARGET_MUTED with the target joining the Mute Set. -/
def saturationResult (t : Slot) (saturated : Bool) (s : State) : State :=
  let old := s.limit.records[t]
  let new := applyResult s.limit.params saturated old
  let down := saturated && new.level != old.level
  let muted := down && new.level == .muted
  raiseIf muted .targetMuted (raiseIf (down && !muted) .targetDerated
    (s.setLimit { s.limit with
      records := s.limit.records.set t new
      muteSet := if muted then addSlot s.limit.muteSet t else s.limit.muteSet }))

/-- The record of a target that joins or leaves the Mute Set by a MUTES write (R122). -/
def mutedRecord : LimitRecord := { level := .muted, saturation := 0, recovery := 0 }

/-- A MUTES write in SET mode (R122). -/
def muteSlots (operand : SlotSet) (l : LimitMonitor) : LimitMonitor :=
  { l with
    muteSet := l.muteSet ||| operand
    records := Vector.ofFn fun t : Fin 64 =>
      if operand.getLsbD t && !l.muteSet.getLsbD t then mutedRecord else l.records[t] }

/-- A MUTES write in CLEAR mode (R122). -/
def unmuteSlots (operand : SlotSet) (l : LimitMonitor) : LimitMonitor :=
  { l with
    muteSet := l.muteSet &&& ~~~operand
    records := Vector.ofFn fun t : Fin 64 =>
      if operand.getLsbD t && l.muteSet.getLsbD t then LimitRecord.initial else l.records[t] }

/-- The level reset at a bank swap: every target that is not MUTED is NORMAL with nothing counted (R123). -/
def swapLevels (l : LimitMonitor) : LimitMonitor :=
  { l with records := Vector.ofFn fun t : Fin 64 =>
      if l.records[t].level = .muted then l.records[t] else LimitRecord.initial }

/-! The resulting mode (R117) -/

/-- The shock count is at or above the quorum. -/
def reachesQuorum (l : LimitMonitor) (shockCount : Nat) : Bool := l.params.shockQuorum.toNat ≤ shockCount

/-- Shock entry with `m` the mode obtained (R124). -/
def enterShock (m : ChosenMode) (s : State) : State :=
  raiseAlert .shockEntered (bump .shocks 1
    (s.setLimit { s.limit with
      mode := .shockHold, request := none, saved := some m, shockSeen := true,
      holdOff := s.limit.params.shockHoldOff.toNat }))

/-- Shock exit (R126): every history is flushed, the mode becomes the saved mode, SHOCK_CLEARED is raised. -/
def exitShock (s : State) : State :=
  raiseAlert .shockCleared (flushAll
    (s.setLimit { s.limit with mode := (s.limit.saved.getD .off).operating, holdOff := 0 }))

/-- The Limit Monitor's reaction to a frame boundary with this shock count (R117). -/
def limitBoundary (shockCount : Nat) (s : State) : State :=
  let l := s.limit
  match l.mode.chosen with
  | some m =>
    let obtained := l.request.getD m
    if reachesQuorum l shockCount then enterShock obtained s
    else s.setLimit { l with mode := obtained.operating, request := none }
  | none =>
    if reachesQuorum l shockCount then s.setLimit { l with holdOff := l.params.shockHoldOff.toNat }
    else if l.holdOff ≤ 1 then exitShock s
    else s.setLimit { l with holdOff := l.holdOff - 1 }

/-! The row of the table -/

/-- SHOCK_EXIT (R126): in SHOCK_HOLD with a hold-off count of 1, the count reaches 0. -/
def execShockExit (s : State) : Host.Outcome State Fault Refusal :=
  .next (if onLoop s && s.limit.mode == .shockHold && s.limit.holdOff ≤ 1 then exitShock s else s)

end Sys2Proof.Machine
end

