-- ==== Sys2Proof/Machine/BankEngine.lean ====
section
/-! DEFINITION. The Bank Engine at frame boundaries: validation, swap, resynchronisation copy, and their abandonment by a
reset (chapter 8, R71). -/

namespace Sys2Proof.Machine

/-! Validation (R135 to R138) -/

/-- The present entries of a row, in position order. -/
def presentEntries (row : Row) : List Entry := row.toList.filterMap id

/-- Sum of the absolute taps of a kernel (R137). -/
def tapSum (k : Kernel) : Nat := (k.taps.toList.map fun h => h.toInt.natAbs).sum

/-- Row load: sum of |gain| times the kernel's absolute taps, exact (R137). -/
def rowLoad (b : Bank) (row : Row) : Nat :=
  ((presentEntries row).map fun e => e.gain.toInt.natAbs * tapSum b.kernels[e.kernel]).sum

/-- Whether no entry's source equals the row's target and no two entries have the same source (R54, R136). -/
def lawfulRow (t : Slot) (row : Row) : Bool :=
  (presentEntries row).all (fun e => e.source != t) && decide ((presentEntries row).map (·.source)).Nodup

/-- The reason a row fails, first in the order of R136, none when it passes. -/
def rowFault (limit : Word) (b : Bank) (t : Slot) : Option RejectReason :=
  let row := b.rows[t]
  if (presentEntries row).any fun e => !b.kernels[e.kernel].defined then some .undefinedKernel
  else if !lawfulRow t row then some .badEntry
  else if limit.toNat * 16777216 < rowLoad b row then some .unstable
  else none

/-- The first failing row of the four from row r on (R135). -/
def firstFault (limit : Word) (b : Bank) (r : Nat) : Option Rejection :=
  (List.finRange 64).findSome? fun t =>
    if r ≤ t.val && t.val < r + Config.rowsPerStep then (rowFault limit b t).map fun c => { row := t, reason := c } else none

/-- One boundary of VALIDATING (R135, R138). -/
def validationStep (s : State) : State :=
  let u := s.banks
  match firstFault s.limit.params.rowStability (standbyBank u) u.progress with
  | some j =>
    raiseAlert .commitRejected
      (s.setBanks { u with engine := .idle, progress := 0, operation := none, rejection := some j })
  | none =>
    if 64 ≤ u.progress + Config.rowsPerStep then s.setBanks { u with engine := .swapPending, progress := 0 }
    else s.setBanks { u with progress := u.progress + Config.rowsPerStep }

/-! Swap (R140) -/

/-- The swap: roles exchanged, generation incremented, limit levels reset, RESYNC begins (R140, R123). -/
def swapBanks (s : State) : State :=
  let u := s.banks
  (s.setBanks { u with liveId := otherBank u.liveId, generation := u.generation + 1, engine := .resync, progress := 0 }).setLimit
    (swapLevels s.limit)

/-! Resynchronisation copy (R142, R143) -/

/-- Copy items p to p + 7 taken from one bank into another: rows 0 to 63, kernels 64 to 191, templates 192 to 199. -/
def copyItemsFrom (src dst : Bank) (p : Nat) : Bank :=
  let hit := fun i : Nat => p ≤ i && i < p + Config.itemsPerStep
  { rows := Vector.ofFn fun t : Fin 64 => if hit t.val then src.rows[t] else dst.rows[t]
    kernels := Vector.ofFn fun k : Fin 128 => if hit (64 + k.val) then src.kernels[k] else dst.kernels[k]
    templates := Vector.ofFn fun j : Fin 8 => if hit (192 + j.val) then src.templates[j] else dst.templates[j] }

/-- The end of the copy: CLEAN, IDLE, COMMIT_DONE (R143). -/
def endCopy (s : State) : State :=
  raiseAlert .commitDone
    (s.setBanks { s.banks with standbyCondition := .clean, engine := .idle, progress := 0, operation := none })

/-- One boundary of RESYNC (R142, R143). -/
def copyStep (s : State) : State :=
  let u := s.banks
  let copied := setStandby u (copyItemsFrom (liveBank u) (standbyBank u) u.progress)
  if Config.copyItems ≤ u.progress + Config.itemsPerStep then endCopy (s.setBanks copied)
  else s.setBanks { copied with progress := u.progress + Config.itemsPerStep }

/-- The Bank Engine's reaction to a frame boundary (R135, R139, R142). -/
def engineBoundary (s : State) : State :=
  match s.banks.engine with
  | .idle => s
  | .validating => validationStep s
  | .swapPending => swapBanks s
  | .resync => copyStep s

/-- A WARM reset, or the falling edge of RST_N, ends a bank operation: in RESYNC the standby bank is TORN, and the rejection record
becomes none (R71, R145, log 20). -/
def abandonOperation (u : BankUnit) : BankUnit :=
  { u with
    standbyCondition := if u.engine = .resync then .torn else u.standbyCondition
    engine := .idle, progress := 0, operation := none, rejection := none }

/-! The row of the table -/

/-- RESYNC_COPY_END (R143): the 25th boundary copies the templates and ends the copy. -/
def execResyncCopyEnd (s : State) : Host.Outcome State Fault Refusal :=
  .next (if onLoop s && s.banks.engine == .resync && s.banks.progress == 192 then copyStep s else s)

end Sys2Proof.Machine
end

