-- ==== Sys2Proof/Machine/Pulses.lean ====
section
/-! DEFINITION. The Pulse Scheduler: the order of the pool, retirement, and the notices of a frame boundary (chapter 6). -/

namespace Sys2Proof.Machine

/-- A seek notice as the Sample Intake hands it over (R45). -/
structure Notice where
  slot : Slot
  lengthClass : Fin 8
  direction : Direction
  lead : BitVec 4
  deriving DecidableEq, Repr

/-- What the Pulse Scheduler tells of a notice: its slot and whether it was a repeat (R102). -/
structure NoticeReport where
  slot : Slot
  isRepeat : Bool
  deriving DecidableEq, Repr

/-- Instance q stands before instance p: earlier onset, or the same onset and a lower slot (R98). -/
def standsBefore (q p : Pulse) : Bool :=
  p.position < q.position || (q.position == p.position && q.source < p.source)

/-- An instance takes its place in the order (R98). -/
def insertPulse (p : Pulse) : List Pulse → List Pulse
  | [] => [p]
  | q :: rest => if standsBefore q p then q :: insertPulse p rest else p :: q :: rest

/-- An instance evaluated for frame m, none when it is expired (R99). -/
def evaluatePulse (m : Word) (q : Pulse) : Option Pulse :=
  (playIndex q.onset m).map fun j => { q with position := j, play := playState j }

/-- Retirement: every instance is evaluated for frame m and the expired ones leave (R99). -/
def retirePulses (m : Word) (pool : List Pulse) : List Pulse := pool.filterMap (evaluatePulse m)

/-- The onset of a notice of frame m (R97). -/
def noticeOnset (m : Word) (n : Notice) : Word := m + n.lead.setWidth 16

/-- The new instance of a notice of frame m: its play index is 1 minus the lead (R101). -/
def newPulse (m : Word) (n : Notice) : Pulse :=
  let j : Int := 1 - n.lead.toNat
  { source := n.slot, lengthClass := n.lengthClass, direction := n.direction, onset := noticeOnset m n,
    position := j, play := playState j }

/-- The instance of a source slot, at most one (R96). -/
def pulseOf (pool : List Pulse) (t : Slot) : Option Pulse := pool.find? fun q => q.source == t

/-- What the notices of one boundary have done so far: pool, notices dropped, reports. -/
structure NoticeStep where
  pool : List Pulse
  drops : Nat
  reports : List NoticeReport
  deriving DecidableEq, Repr

/-- One notice decided against the pool: repeat, supersede, new or drop (R101 to R104). -/
def takeNotice (m : Word) (a : NoticeStep) (n : Notice) : NoticeStep :=
  match pulseOf a.pool n.slot with
  | some q =>
    if q.onset = noticeOnset m n then
      { a with reports := a.reports ++ [{ slot := n.slot, isRepeat := true }] }
    else
      { a with
        pool := insertPulse (newPulse m n) (a.pool.filter fun q => q.source != n.slot)
        reports := a.reports ++ [{ slot := n.slot, isRepeat := false }] }
  | none =>
    if a.pool.length < Config.poolCapacity then
      { a with
        pool := insertPulse (newPulse m n) a.pool
        reports := a.reports ++ [{ slot := n.slot, isRepeat := false }] }
    else
      { a with drops := a.drops + 1, reports := a.reports ++ [{ slot := n.slot, isRepeat := false }] }

/-- The Pulse Scheduler's step at the boundary of frame m under the resulting mode: in RUN and FREEZE it retires and takes the
notices, in OFF and SHOCK_HOLD it is flushed and ignores them, reporting each as not a repeat (R100, R102, R110). -/
def pulseStep (mode : OperatingMode) (m : Word) (notices : List Notice) (pool : List Pulse) : NoticeStep :=
  match mode with
  | .run | .freeze => notices.foldl (takeNotice m) { pool := retirePulses m pool, drops := 0, reports := [] }
  | .off | .shockHold =>
    { pool := [], drops := 0, reports := notices.map fun n => { slot := n.slot, isRepeat := false } }

/-- The step applied to the state: the pool, PULSE_DROP and PULSE_DROPPED (R104). -/
def pulseBoundary (m : Word) (notices : List Notice) (s : State) : State :=
  let a := pulseStep s.limit.mode m notices s.pool
  raiseIf (0 < a.drops) .pulseDropped (bump .pulseDrop a.drops (s.setPool a.pool))

end Sys2Proof.Machine
end

