-- ==== Sys2Proof/Machine/CaptureUnit.lean ====
section
/-! DEFINITION. The Capture Unit: recording, trigger, completion (chapter 11). -/

namespace Sys2Proof.Machine

/-- The status a completed item keeps (R171): the output selection as of that moment, with the stamp against the frame. -/
def itemStatus (s : State) (m : Word) (t : Slot) : CellStatus :=
  if s.slots.records[t].state = .settling then .settling
  else if !s.slots.targets.getLsbD t then .off
  else if s.limit.muteSet.getLsbD t then .muted
  else
    match s.limit.mode with
    | .off => .off
    | .shockHold => .shock
    | .freeze => .held
    | .run => if s.coupling.targets[t].stamp = some m then .fresh else .held

/-- The completed items of a begun frame (R171). -/
def completedRow (s : State) (b : BegunRow) : CaptureRow :=
  { frame := b.frame
    items := Vector.ofFn fun c : Fin 4 =>
      s.capture.channels[c].map fun t =>
        { sample := b.entries[c], last := s.coupling.targets[t].last, status := itemStatus s b.frame t } }

/-- The newest n rows (R172, R173). -/
def newest (n : Nat) (rows : List CaptureRow) : List CaptureRow := rows.drop (rows.length - n)

/-- The items in progress complete, the Coupling Engine having offered its values (R171, R173, R94): in ARMED they join the
circular buffer; in FILLING they lower the remaining count, and at 0 the capture is DONE. -/
def completeItems (s : State) : State :=
  let c := s.capture
  match c.begun with
  | none => s
  | some b =>
    let rows := newest Config.captureLength (c.rows ++ [completedRow s b])
    match c.state with
    | .filling =>
      let left := c.remaining - 1
      raiseIf (left == 0) .captureDone
        (s.setCapture { c with
          rows := rows, begun := none, remaining := left, state := if left = 0 then .done else .filling })
    | _ => s.setCapture { c with rows := rows, begun := none }

/-- The trigger event of a boundary (R172): a notice of the trigger slot that is not a repeat, or a shock entry. -/
def triggerHit (t : Trigger) (reports : List NoticeReport) (shockEntry : Bool) : Bool :=
  match t with
  | .immediate => false
  | .seek slot => reports.any fun n => n.slot == slot && !n.isRepeat
  | .shock => shockEntry

/-- The trigger is taken: the newest pre-trigger items are kept and the filling starts (R173). -/
def fireTrigger (c : Capture) : Capture :=
  let k := min c.preTrigger c.rows.length
  { c with state := .filling, rows := newest k c.rows, kept := k, remaining := Config.captureLength - c.preTrigger }

/-- The history entry for frame m of each channel's slot (R47, R171). -/
def channelEntries (s : State) (m : Word) : Vector (Option Word) 4 :=
  Vector.ofFn fun c : Fin 4 =>
    match s.capture.channels[c] with
    | some t => readHistory s.intake.history[t] s.intake.head m
    | none => none

/-- The Capture Unit's reaction to the boundary of frame m (R171 to R173); the items complete at once when no pass began
there (R94). -/
def captureBoundary (m : Word) (reports : List NoticeReport) (shockEntry : Bool) (s : State) : State :=
  let c := if s.capture.state = .armed ∧ triggerHit s.capture.trigger reports shockEntry then fireTrigger s.capture else s.capture
  if c.state = .armed ∨ c.state = .filling then
    let begun := s.setCapture { c with begun := some { frame := m, entries := channelEntries s m } }
    if begun.coupling.pass.isSome then begun else completeItems begun
  else s

/-- CAPTURE_COMPLETE (R173): the items in progress complete and bring the remaining count from 1 to 0. -/
def execCaptureComplete (s : State) : Host.Outcome State Fault Refusal :=
  .next (if s.capture.state == .filling && s.capture.remaining ≤ 1 && s.capture.begun.isSome then completeItems s else s)

end Sys2Proof.Machine
end

