-- ==== Sys2Proof/Machine/CorrectionPass.lean ====
section
/-! DEFINITION. The Coupling Engine: the arithmetic of one target, its completion, the start and abandonment of a pass, and
the output selection (chapter 5). -/

namespace Sys2Proof.Machine

/-! Arithmetic of one target (R77 to R80) -/

/-- The filtered term Tc of an entry in the pass of frame m: sixteen history entries of its source against the kernel's taps,
rounded (R77). -/
def filteredTerm (s : State) (m : Word) (e : Entry) : Int :=
  let k := (liveBank s.banks).kernels[e.kernel]
  let h := s.intake.history[e.source]
  round14 ((List.finRange 16).map fun i : Fin 16 =>
    k.taps[i].toInt * entryValue (readHistory h s.intake.head (m - BitVec.ofNat 16 e.delay - BitVec.ofNat 16 i))).sum

/-- The sample of a live template at a play index (R57). -/
def templateSample (b : Bank) (k : Fin 8) (j : Int) : Int :=
  if h : j.toNat < 32 then b.templates[k][j.toNat].toInt else 0

/-- The pulse term of an entry in the pass of frame m (R78): 0 without a pulse gain or a PLAYING instance. -/
def pulseTerm (s : State) (m : Word) (e : Entry) : Int :=
  match e.pulseGain, pulseOf s.pool e.source with
  | some pg, some q =>
    match playIndex q.onset m with
    | some j =>
      if 0 ≤ j then
        let v := templateSample (liveBank s.banks) q.lengthClass j * pg.toInt
        match q.direction with
        | .inward => v
        | .outward => -v
      else 0
    | none => 0
  | _, _ => 0

/-- What one row position adds to the sum of the pass of frame m (R77 to R79). A stale source gives no filtered term. -/
def positionTerm (s : State) (m : Word) (p : Option Entry) : Int :=
  match p with
  | none => 0
  | some e =>
    (if isStale s.intake.history[e.source] then 0 else filteredTerm s m e * e.gain.toInt) + pulseTerm s m e

/-- The work at the start of a target. -/
def TargetWork.start : TargetWork := { position := 0, sum := 0, derated := none }

/-- One piece of the work on target t in the pass of frame m, on its inputs as they stand: the next row position, and after
the last one the rounding and the derating shift by the limit level (R76, R79). -/
def advanceWork (s : State) (m : Word) (t : Slot) (w : TargetWork) : TargetWork :=
  if h : w.position < 8 then
    { w with position := w.position + 1, sum := w.sum + positionTerm s m (liveBank s.banks).rows[t][w.position] }
  else
    match w.derated with
    | none => { w with derated := some (derate s.limit.records[t].level (round14 w.sum)) }
    | some _ => w

/-- The work advanced n times on one state. -/
def workSteps (s : State) (m : Word) (t : Slot) : Nat → TargetWork → TargetWork
  | 0, w => w
  | n + 1, w => workSteps s m t n (advanceWork s m t w)

/-- The derated value of target t once all that is left of its work is done (R79). -/
def deratedValue (s : State) (m : Word) (t : Slot) (w : TargetWork) : Int := ((workSteps s m t 9 w).derated).getD 0

/-- A piece of work of a running pass, done between commands (R76, log 14). -/
def passTick (s : State) : State :=
  match s.coupling.pass with
  | none => s
  | some p => s.setCoupling { s.coupling with pass := some { p with work := advanceWork s p.frame p.next p.work } }

/-! Completion of a target (R80, R81) -/

/-- The pass record after its next target has completed: the next target, or IDLE after target 63 (R75). -/
def nextPass (p : Pass) (saturated : Bool) : Option Pass :=
  if h : p.next.val + 1 < 64 then
    some { frame := p.frame, next := ⟨p.next.val + 1, h⟩, saturationSeen := p.saturationSeen || saturated,
           work := TargetWork.start }
  else none

/-- The completion of the next target of a running pass: last correction, stamp and fresh mark, SAT_PASSES, the saturation
result, and at target 63 the end of the pass with its offer to the Capture Unit (R75, R80, R81, R94). -/
def completeTarget (p : Pass) (s : State) : State :=
  let v := deratedValue s p.frame p.next p.work
  let saturated := isSaturated v
  let recorded := s.setCoupling
    { pass := nextPass p saturated
      targets := s.coupling.targets.set p.next { last := clampCorrection v, stamp := some p.frame, fresh := true } }
  let counted := if saturated && !p.saturationSeen then bump .satPasses 1 recorded else recorded
  let judged := saturationResult p.next saturated counted
  if judged.coupling.pass.isNone then completeItems judged else judged

/-- TARGET_COMPLETION (R81): a running pass completes its next target. -/
def execTargetCompletion (s : State) : Host.Outcome State Fault Refusal :=
  match s.coupling.pass with
  | some p => .next (completeTarget p s)
  | none => .next s

/-! Start and abandonment (R73, R74, R93) -/

/-- A frame boundary abandons a pass in progress: an overrun, whose items in progress complete (R74, R94). -/
def overrunPass (s : State) : State :=
  match s.coupling.pass with
  | some _ => completeItems (bump .passOverrun 1 (s.setCoupling { s.coupling with pass := none }))
  | none => s

/-- The Coupling Engine at the boundary of frame m: fresh marks are cleared, and in RUN the pass of m begins (R73). -/
def startPass (m : Word) (s : State) : State :=
  s.setCoupling
    { pass :=
        if s.limit.mode = .run then some { frame := m, next := 0, saturationSeen := false, work := TargetWork.start }
        else none
      targets := Vector.ofFn fun t : Fin 64 => { s.coupling.targets[t] with fresh := false } }

/-- Loss of lock abandons a pass without an overrun (R93). -/
def dropPass (s : State) : State := s.setCoupling { s.coupling with pass := none }

/-! Output selection (R82) -/

/-- Correction and status for a cell, and whether it is a deadline miss. -/
structure Selection where
  correction : Word
  status : CellStatus
  miss : Bool
  deriving DecidableEq, Repr

/-- The output selection for target t in frame n: the first case of R82 that applies. -/
def selectOutput (s : State) (n : Word) (t : Slot) : Selection :=
  let r := s.coupling.targets[t]
  if s.slots.records[t].state = .settling then { correction := 0, status := .settling, miss := false }
  else if !s.slots.targets.getLsbD t then { correction := 0, status := .off, miss := false }
  else if s.limit.muteSet.getLsbD t then { correction := 0, status := .muted, miss := false }
  else
    match s.limit.mode with
    | .off => { correction := 0, status := .off, miss := false }
    | .shockHold => { correction := 0, status := .shock, miss := false }
    | .freeze => { correction := r.last, status := .held, miss := false }
    | .run =>
      if isFresh r n then { correction := r.last, status := .fresh, miss := false }
      else { correction := r.last, status := .held, miss := true }

/-- A deadline miss is counted and raised (R85). -/
def recordMiss (miss : Bool) (s : State) : State :=
  if miss then raiseAlert .deadlineMissed (bump .deadlineMiss 1 s) else s

end Sys2Proof.Machine
end

