-- ==== Sys2Proof/Machine/Boundary.lean ====
section
/-! DEFINITION. The frame boundary: slot evaluation, the Sample Intake's entries, notices and shock count, leases, the PERSIST
time limit, and the boundary as a whole (R16, chapters 2 and 3, R158, R178). -/

namespace Sys2Proof.Machine

/-! Slot evaluation (R28 to R32) -/

/-- A slot has a sled present in the frame (R27). -/
def sledPresent (f : Frame) (map : Vector (Option (Fin 64)) 64) (t : Slot) : Bool :=
  match returnHalf f map t with
  | some c => isPresent c
  | none => false

/-- A settling record one boundary on; at 0 the slot is ATTACHED (R30). -/
def settleStep (r : SlotRecord) : SlotRecord :=
  if r.settle ≤ 1 then { state := .attached, settle := 0 } else { r with settle := r.settle - 1 }

/-- The runtime record a boundary gives a slot (R28). -/
def evaluateRecord (present : Bool) (r : SlotRecord) : SlotRecord :=
  match r.state, present with
  | .detached, true => { state := .settling, settle := Config.settlePeriod }
  | .settling, true => settleStep r
  | .attached, true => r
  | .detached, false => r
  | .settling, false => SlotRecord.initial
  | .attached, false => SlotRecord.initial

/-- The records of all slots after the boundary (R28). -/
def evaluatedRecords (f : Frame) (u : SlotUnit) : Vector SlotRecord 64 :=
  Vector.ofFn fun t : Fin 64 => evaluateRecord (sledPresent f u.map t) u.records[t]

/-- The slot is detached at this boundary (R31). -/
def detachedNow (f : Frame) (u : SlotUnit) (t : Slot) : Bool :=
  u.records[t].state != .detached && !sledPresent f u.map t

/-- The Slot Map unit at the boundary: new records, SLED_CHANGED for every change of state, the pulse instances of detached
slots removed (R27, R28, R31, R109). -/
def evaluateSlots (f : Frame) (s : State) : State :=
  let new := evaluatedRecords f s.slots
  raiseIf ((List.finRange 64).any fun t => new[t].state != s.slots.records[t].state) .sledChanged
    ((s.setPool (s.pool.filter fun q => !detachedNow f s.slots q.source)).setSlots { s.slots with records := new })

/-! Entries, notices and the shock count (R39, R44 to R46, R48) -/

/-- The entry of a slot for the frame, under the resulting record (R39). -/
def boundaryEntry (f : Frame) (map : Vector (Option (Fin 64)) 64) (r : SlotRecord) (t : Slot) : Option Word :=
  if r.state = .detached then none
  else
    match returnHalf f map t with
    | some c => if isPresent c && isSensorValid c then some c.sample else none
    | none => none

/-- Every slot gets its entry for frame m; a slot detached at this boundary is flushed, and HOLES counts the holes given to
ATTACHED slots (R39, R44, R48). `before` holds the records as the boundary found them. -/
def giveEntries (f : Frame) (before : SlotUnit) (s : State) : State :=
  let entry := fun t : Slot => boundaryEntry f s.slots.map s.slots.records[t] t
  bump .holes ((List.finRange 64).countP fun t => s.slots.records[t].state == .attached && (entry t).isNone)
    (s.setIntake
      { history := Vector.ofFn fun t : Fin 64 =>
          if detachedNow f before t then History.holes else pushEntry s.intake.history[t] (entry t)
        head := some f.number })

/-- The shock count of the frame: slots whose entry is a sample that reaches the threshold (R46). -/
def shockCount (f : Frame) (s : State) : Nat :=
  (List.finRange 64).countP fun t =>
    reachesThreshold s.limit.params.shockThreshold (boundaryEntry f s.slots.map s.slots.records[t] t)

/-- The notice of a slot at this boundary, if it hands one over (R45). -/
def slotNotice (f : Frame) (u : SlotUnit) (t : Slot) : Option Notice :=
  if u.records[t].state = .detached then none
  else
    match returnHalf f u.map t with
    | some c =>
      if isPresent c && hasNotice c then
        some { slot := t, lengthClass := noticeClass c, direction := noticeDirection c, lead := noticeLead c }
      else none
    | none => none

/-- The notices of the frame, in ascending slot order (R45, R101). -/
def boundaryNotices (f : Frame) (u : SlotUnit) : List Notice := (List.finRange 64).filterMap (slotNotice f u)

/-! Leases and the PERSIST time limit (R158, R178) -/

/-- The lease of a domain reaches its limit at this boundary. -/
def leaseEnds (h : Option Holder) : Bool :=
  match h with
  | some x => Config.leaseLimit ≤ x.lease + 1
  | none => false

/-- A domain one boundary on (R158). -/
def advanceLease (h : Option Holder) : Option Holder :=
  if leaseEnds h then none else h.map fun x => { x with lease := x.lease + 1 }

/-- The Lock Table's reaction to a boundary; LOCK_EXPIRED is raised when a lease ends (R158). -/
def leaseBoundary (s : State) : State :=
  let l := s.mgmt.locks
  raiseIf (leaseEnds l.standby || leaseEnds l.config || leaseEnds l.capture || leaseEnds l.profile) .lockExpired
    (s.setMgmt { s.mgmt with locks :=
      { standby := advanceLease l.standby, config := advanceLease l.config, capture := advanceLease l.capture,
        profile := advanceLease l.profile } })

/-- The Profile Store's reaction to a boundary: at the 20,000th a running PERSIST fails (R178). -/
def persistBoundary (s : State) : State :=
  match s.profile.running with
  | none => s
  | some p =>
    if Config.persistLimit ≤ p.count + 1 then
      raiseAlert .persistFailed (s.setProfile { s.profile with condition := .torn, running := none })
    else s.setProfile { s.profile with running := some { p with count := p.count + 1 } }

/-! The boundary (R16) -/

/-- The reactions up to the resulting mode: overrun, slots, entries, Limit Monitor (R74, R28, R39, R117). -/
def boundaryIntake (f : Frame) (s : State) : State :=
  let o := overrunPass s
  let e := giveEntries f o.slots (evaluateSlots f o)
  limitBoundary (shockCount f e) e

/-- The frame boundary of frame f in the order of log 6: what another block's reaction depends on comes first. -/
def frameBoundary (f : Frame) (s : State) : State :=
  let a := boundaryIntake f s
  let shockEntry := s.limit.mode != .shockHold && a.limit.mode == .shockHold
  let notices := boundaryNotices f a.slots
  let reports := (pulseStep a.limit.mode f.number notices a.pool).reports
  let b := startPass f.number (pulseBoundary f.number notices (engineBoundary a))
  persistBoundary (captureBoundary f.number reports shockEntry (leaseBoundary b))

/-! The rows of the table -/

/-- BANK_SWAP (R140): in SWAP_PENDING, at a frame boundary, which abandons a pass in progress before the swap (R52, R74, log 4). -/
def execBankSwap (s : State) : Host.Outcome State Fault Refusal :=
  .next (if onLoop s && s.banks.engine == .swapPending then swapBanks (overrunPass s) else s)

/-- SETTLE_END (R30): at a boundary, a SETTLING slot with count 1 reaches 0, is ATTACHED, and SLED_CHANGED is raised. -/
def execSettleEnd (t : Slot) (s : State) : Host.Outcome State Fault Refusal :=
  .next (if onLoop s && s.slots.records[t].state == .settling && s.slots.records[t].settle ≤ 1 then
      raiseAlert .sledChanged (s.setSlots { s.slots with records := s.slots.records.set t { state := .attached, settle := 0 } })
    else s)

/-- LOCK_EXPIRY (R158): at a boundary, a domain whose lease count reaches 32,768 becomes FREE, and LOCK_EXPIRED is raised. -/
def execLockExpiry (d : Domain) (s : State) : Host.Outcome State Fault Refusal :=
  .next (if onLoop s && leaseEnds (lockOf s.mgmt.locks d) then
      raiseAlert .lockExpired (s.setMgmt { s.mgmt with locks := setLock s.mgmt.locks d none })
    else s)

/-- PERSIST_TIME_LIMIT (R178): the boundary that brings the time count to 20,000 ends the PERSIST as failed. -/
def execPersistTimeLimit (s : State) : Host.Outcome State Fault Refusal :=
  .next (if onLoop s && s.profile.running.any (fun p => Config.persistLimit ≤ p.count + 1) then persistBoundary s else s)

end Sys2Proof.Machine
end

