-- ==== Sys2Proof/Machine/StartUps.lean ====
section
/-! DEFINITION. The Profile Store, power and resets: profile load, power-up, FULL and WARM reset actions, the reset line, the
end of a PERSIST, loss of power (chapter 12, R7). -/

namespace Sys2Proof.Machine

/-! The profile (R176 to R179) -/

/-- A PERSIST in progress is ended by a reset or by loss of power: TORN, and no alert (R181). -/
def endPersist (p : ProfileStore) : ProfileStore :=
  if p.running.isSome then { p with condition := .torn, running := none } else p

/-- The image a PERSIST stores: its snapshot and the live bank (R177). -/
def imageOf (n : Snapshot) (b : Bank) : ProfileImage :=
  { generation := n.generation, bank := b, slotMap := n.slotMap, targets := n.targets, params := n.params,
    alertMap := n.alertMap }

/-- The end of a PERSIST with its read-back check (R177, step 4). -/
def finishPersist (run : PersistRun) (outcome : ReadBack) (s : State) : State :=
  match outcome with
  | .matches =>
    let image := imageOf run.snapshot (liveBank s.banks)
    raiseAlert .persistDone
      (s.setProfile { s.profile with
        condition := .good, image := some image, crc := crc32 (profileBytes image), running := none })
  | .differs => raiseAlert .persistFailed (s.setProfile { s.profile with condition := .torn, running := none })

/-- The image a profile load uses: the profile is recorded GOOD and its CRC agrees (R176, R179). -/
def goodImage (p : ProfileStore) : Option ProfileImage :=
  match p.condition, p.image with
  | .good, some im => if crc32 (profileBytes im) = p.crc then some im else none
  | _, _ => none

/-- The condition a profile load leaves: a GOOD profile that does not agree with its CRC is TORN (R176). -/
def checkedCondition (p : ProfileStore) : ProfileCondition :=
  if p.condition = .good ∧ (goodImage p).isNone then .torn else p.condition

/-- The profile load, on a part whose tables hold their defaults (R179). -/
def profileLoad (s : State) : State :=
  match goodImage s.profile with
  | some im =>
    { s with
      banks := { s.banks with bankA := im.bank, bankB := im.bank, generation := im.generation }
      slots := { s.slots with map := im.slotMap, targets := im.targets }
      limit := { s.limit with params := im.params, mode := s.startUp.startMode.operating }
      alerts := { s.alerts with map := im.alertMap }
      profile := { s.profile with found := true } }
  | none =>
    raiseAlert .profileAbsent (s.setProfile { s.profile with condition := checkedCondition s.profile, found := false })

/-! Power and resets -/

/-- Ports as every reset leaves them, under a port condition; what was last forwarded stays on the outputs (R20). -/
def freshPorts (c : PortCondition) (p : LoopPorts) : LoopPorts :=
  { LoopPorts.initial with condition := c, outbOut := p.outbOut, retOut := p.retOut }

/-- Every block at its power-up value before the load, ports TRANSPARENT, nothing pending (R20, R35, R50, R70, R95, R114, R130,
R146, R160, R169, R175). -/
def blankPart (u : StartUp) (s : State) : State :=
  { State.reset with
    ports := freshPorts .transparent s.ports
    alerts := { pending := 0, map := defaultAlertMap }
    profile := endPersist s.profile
    startUp := u
    pending := s.pending }

/-- The actions of a power-up or FULL reset: everything at its power-up value, the profile loaded, RESTARTED raised; the ports
stay TRANSPARENT until the load ends (R70, R179, R180, log 7). -/
def coldStart (u : StartUp) (s : State) : State := raiseAlert .restarted (profileLoad (blankPart u s))

/-- The start mode of a strap level (R179). -/
def startModeOf (straps : Straps) : ChosenMode := if straps.startRun then .run else .off

/-- The power-up sequence with its straps sampled (R179). -/
def powerUpSequence (straps : Straps) (s : State) : State :=
  coldStart { phase := .loading, rstN := true, node := straps.node, startMode := startModeOf straps, reason := .powerUp } s

/-- A FULL reset: every action of the power-up sequence but strap sampling (R180). -/
def fullReset (s : State) : State := coldStart { s.startUp with phase := .loading, reason := .full } s

/-- The records a WARM reset leaves: members of the Mute Set MUTED, the others NORMAL (R131). -/
def warmLevels (muteSet : SlotSet) : Vector LimitRecord 64 :=
  Vector.ofFn fun t : Fin 64 => if muteSet.getLsbD t then mutedRecord else LimitRecord.initial

/-- The WARM reset actions (R181 and the reset rules of each chapter); `c` is the port condition they leave. -/
def warmActions (reason : ResetReason) (c : PortCondition) (s : State) : State :=
  raiseAlert .restarted
    { s with
      ports := freshPorts c s.ports
      slots := { s.slots with records := Vector.replicate 64 SlotRecord.initial }
      intake := Intake.initial
      banks := abandonOperation s.banks
      coupling := Coupling.initial
      pool := []
      limit :=
        { LimitMonitor.initial with
          mode := if s.profile.found then s.startUp.startMode.operating else .off
          records := warmLevels s.limit.muteSet
          muteSet := s.limit.muteSet
          params := s.limit.params }
      mgmt := Management.initial
      alerts := { s.alerts with pending := 0 }
      counters := Vector.replicate 10 0
      capture := Capture.initial
      profile := endPersist s.profile
      startUp := { s.startUp with reason := reason } }

/-- A RESET begins at the end of the passage that carried it (R7, R159, R180, R181). -/
def beginReset (k : Option ResetKind) (s : State) : State :=
  match k with
  | none => s
  | some .full => fullReset s
  | some .warm => warmActions .warmInband .active s

/-- A passage in composition goes on its way with the changes already made to it and its check regenerated (R7). -/
def cutPassage (s : State) : State :=
  match s.ports.composing with
  | none => s
  | some c => s.setPorts { s.ports with composing := none, outbOut := some (regenerate c.frame) }

/-- The RESET taken so far in a passage in composition. -/
def passageReset (s : State) : Option ResetKind := s.ports.composing.bind fun c => c.reset

/-- A passage in composition is cut, which is its end, so that a RESET taken in it begins (R7, log 18). -/
def endPassage (s : State) : State := beginReset (passageReset s) (cutPassage s)

/-- The part without supply: only the non-volatile profile, the level of RST_N and the queue are kept (R176, log 11). -/
def unpower (s : State) : State :=
  { State.reset with
    ports := { LoopPorts.initial with condition := .transparent }
    alerts := { pending := 0, map := defaultAlertMap }
    profile := { endPersist s.profile with found := false }
    startUp := { phase := .unpowered, rstN := s.startUp.rstN, node := 0, startMode := .off, reason := .powerUp }
    pending := s.pending }

/-! The rows of the table -/

/-- PERSIST_END (R177). -/
def execPersistEnd (outcome : ReadBack) (s : State) : Host.Outcome State Fault Refusal :=
  match s.profile.running with
  | some run => .next (finishPersist run outcome s)
  | none => .next s

/-- POWER_UP (R179): with RST_N low the sequence waits at its start, and the part keeps its unpowered values until then (log 11). A
part that still has its supply loses it first (log 8). -/
def execPowerUp (straps : Straps) (rstHigh : Bool) (s : State) : Host.Outcome State Fault Refusal :=
  let off := unpower s
  if rstHigh then .next (powerUpSequence straps off)
  else .next (off.setStartUp { off.startUp with phase := .waiting, rstN := false })

/-- PROFILE_LOAD_END (R7): the ports become ACTIVE, unless RST_N is low. -/
def execProfileLoadEnd (s : State) : Host.Outcome State Fault Refusal :=
  if s.startUp.phase = .loading then
    .next ((s.setStartUp { s.startUp with phase := .running }).setPorts
      (freshPorts (if s.startUp.rstN then .active else .transparent) s.ports))
  else .next s

/-- RST_N_FALL (R7, R49, R71, R131, R145, R181), the beginning of a WARM reset: the ports are TRANSPARENT, a PERSIST ends TORN, a
bank operation ends. A pass is abandoned with its capture items in progress, the histories are flushed and the rejection record
becomes none at this edge, where the rules give the reset and no moment (log 20). -/
def execRstNFall (s : State) : Host.Outcome State Fault Refusal :=
  if s.startUp.rstN then
    let c := flushAll (endPassage s)
    .next
      { c with
        ports := { c.ports with condition := .transparent }
        banks := abandonOperation c.banks
        coupling := { c.coupling with pass := none }
        capture := { c.capture with begun := none }
        profile := endPersist c.profile
        startUp := { c.startUp with rstN := false } }
  else .next s

/-- RST_N_RISE (R179, R181): the WARM reset actions with reason WARM_LINE; a waiting power-up runs instead. While a profile load
goes on the ports stay TRANSPARENT until it ends (log 7). -/
def execRstNRise (straps : Straps) (s : State) : Host.Outcome State Fault Refusal :=
  if s.startUp.rstN then .next s
  else
    let high := s.setStartUp { s.startUp with rstN := true }
    match s.startUp.phase with
    | .unpowered => .next high
    | .waiting => .next (powerUpSequence straps high)
    | .loading => .next (warmActions .warmLine .transparent high)
    | .running => .next (warmActions .warmLine .active high)

/-- LOSS_OF_POWER (R176). -/
def execLossOfPower (s : State) : Host.Outcome State Fault Refusal := .next (unpower s)

end Sys2Proof.Machine
end

