-- ==== Sys2Proof/Machine/Management.lean ====
section
/-! DEFINITION. The Management Interpreter's commands but for the tables: STATUS, CLAIM, RELEASE, SELECT, COMMIT, RESYNC,
CLEAR_STANDBY, MODE, ARM_CAPTURE, PERSIST, ACK_ALERT, and an unknown code (chapter 9). Each decision takes the state with the
leases renewed. -/

namespace Sys2Proof.Machine

/-! Decisions -/

/-- STATUS reports the part's condition and clears SHOCK_SEEN (R127, R154). -/
def decideStatus (s : State) : State × Reply :=
  (s.setLimit { s.limit with shockSeen := false }, okReply (statusPayload s))

/-- CLAIM (R156). -/
def decideClaim (r : Request) (s : State) : State × Reply :=
  match domainOfCode r.payload[0] with
  | none => unchanged .badValue s
  | some d =>
    if r.tag = 0 then unchanged .badValue s
    else
      match lockOf s.mgmt.locks d with
      | none =>
        (s.setMgmt { s.mgmt with locks := setLock s.mgmt.locks d (some { manager := r.manager, tag := r.tag, lease := 0 }) },
          plainReply .ok)
      | some h =>
        if h.manager = r.manager ∧ h.tag = r.tag then
          (s.setMgmt { s.mgmt with locks := setLock s.mgmt.locks d (some { h with lease := 0 }) }, plainReply .ok)
        else
          (s, { answer := .lockHeld, itemFlag := false, payload := #v[BitVec.ofNat 8 h.manager, 0, 0, 0, 0, 0, 0, 0] })

/-- RELEASE (R157). -/
def decideRelease (r : Request) (s : State) : State × Reply :=
  match domainOfCode r.payload[0] with
  | none => unchanged .badValue s
  | some d =>
    if holds r d s then (s.setMgmt { s.mgmt with locks := setLock s.mgmt.locks d none }, plainReply .ok)
    else unchanged .notHolder s

/-- SELECT (R151); a refused SELECT has the zero payload (log 12). -/
def decideSelect (r : Request) (s : State) : State × Reply :=
  match tableOfCode r.payload[0] with
  | none => unchanged .badTable s
  | some t =>
    let start := payloadWord r.payload 1
    if itemCount t ≤ start.toNat then unchanged .range s
    else
      match modeOfCode r.payload[1] with
      | none => unchanged .badMode s
      | some m =>
        if admitsMode t m then
          (setContext r { table := some t, index := start.toNat, mode := m, state := .opened } s,
            okReply (payloadOfWords (wordOf (tableCode t) (modeCode m)) start (BitVec.ofNat 16 (itemCount t)) 0))
        else unchanged .badMode s

/-- COMMIT (R133). -/
def decideCommit (r : Request) (s : State) : State × Reply :=
  if !holds r .standby s then unchanged .notHolder s
  else if s.banks.engine ≠ .idle then unchanged .busy s
  else if s.profile.running.isSome then unchanged .busy s
  else if s.banks.standbyCondition = .torn then unchanged .torn s
  else
    (s.setBanks { s.banks with engine := .validating, progress := 0, operation := some .commit, rejection := none },
      plainReply .accepted)

/-- RESYNC (R144). -/
def decideResync (r : Request) (s : State) : State × Reply :=
  if !holds r .standby s then unchanged .notHolder s
  else if s.banks.engine ≠ .idle then unchanged .busy s
  else (s.setBanks { s.banks with engine := .resync, progress := 0, operation := some .resync }, plainReply .accepted)

/-- CLEAR_STANDBY (R69). -/
def decideClearStandby (r : Request) (s : State) : State × Reply :=
  if !holds r .standby s then unchanged .notHolder s
  else if s.banks.engine ≠ .idle then unchanged .busy s
  else (s.setBanks { setStandby s.banks Bank.cleared with standbyCondition := .clean }, plainReply .ok)

/-- MODE (R116): during SHOCK_HOLD it replaces the saved mode, otherwise the mode request. -/
def decideMode (r : Request) (s : State) : State × Reply :=
  if !holds r .config s then unchanged .notHolder s
  else
    match chosenOfCode r.payload[0] with
    | none => unchanged .badValue s
    | some m =>
      if s.limit.mode = .shockHold then (s.setLimit { s.limit with saved := some m }, plainReply .ok)
      else (s.setLimit { s.limit with request := some m }, plainReply .ok)

/-- The arguments of an ARM_CAPTURE. -/
structure CaptureArguments where
  channels : Vector (Option Slot) 4
  trigger : Trigger
  preTrigger : Nat
  deriving DecidableEq, Repr

/-- A slot number of a payload byte's low 7 bits, none when it is above 63. -/
def slotOfByte (b : Byte) : Option Slot := if h : b.toNat < 64 then some ⟨b.toNat, h⟩ else none

/-- A channel byte: bit 7 present, bits 6 to 0 slot. -/
def channelPresent (b : Byte) : Bool := b.getLsbD 7

/-- The slot a channel byte names. -/
def channelSlot (b : Byte) : Option Slot := slotOfByte (b &&& 0x7F)

/-- The trigger a payload names: kind in byte 4, slot of SEEK in byte 5 (09 Table 9.8). -/
def triggerOf (p : Vector Byte 8) : Option Trigger :=
  match p[4].toNat with
  | 0 => some .immediate
  | 1 => (slotOfByte p[5]).map .seek
  | 2 => some .shock
  | _ => none

/-- The arguments an ARM_CAPTURE carries, none when one of the checks of R155 refuses them. -/
def captureArguments (p : Vector Byte 8) : Option CaptureArguments :=
  let bytes : Vector Byte 4 := #v[p[0], p[1], p[2], p[3]]
  let someChannel := bytes.toList.any channelPresent
  let lawful := bytes.toList.all fun b => !channelPresent b || (channelSlot b).isSome
  match triggerOf p with
  | some t =>
    if someChannel && lawful && p[6].toNat ≤ Config.preTriggerMax then
      some {
        channels := Vector.ofFn fun c : Fin 4 => if channelPresent bytes[c] then channelSlot bytes[c] else none
        trigger := t
        preTrigger := p[6].toNat }
    else none
  | none => none

/-- The unit armed: everything held is discarded; IMMEDIATE starts the filling at once (R170). -/
def armed (a : CaptureArguments) : Capture :=
  { state := if a.trigger = .immediate then .filling else .armed
    channels := a.channels, trigger := a.trigger, preTrigger := a.preTrigger, rows := [], begun := none, kept := 0
    remaining := if a.trigger = .immediate then Config.captureLength - a.preTrigger else 0 }

/-- ARM_CAPTURE (R155, R170). -/
def decideArmCapture (r : Request) (s : State) : State × Reply :=
  if !holds r .capture s then unchanged .notHolder s
  else
    match captureArguments r.payload with
    | none => unchanged .badValue s
    | some a => (s.setCapture (armed a), plainReply .ok)

/-- The snapshot a PERSIST takes (R177). -/
def takeSnapshot (s : State) : Snapshot :=
  { generation := s.banks.generation, slotMap := s.slots.map, targets := s.slots.targets, params := s.limit.params,
    alertMap := s.alerts.map }

/-- PERSIST (R155, R177): the profile is TORN from the acceptance on; its old contents are gone (log 10). -/
def decidePersist (r : Request) (s : State) : State × Reply :=
  if !holds r .profile s then unchanged .notHolder s
  else if s.banks.engine ≠ .idle ∨ s.profile.running.isSome then unchanged .busy s
  else
    (s.setProfile { s.profile with
        condition := .torn, image := none, crc := 0, running := some { snapshot := takeSnapshot s, count := 0 } },
      plainReply .accepted)

/-- ACK_ALERT (R155, R164): the named sources leave the pending set. -/
def decideAckAlert (r : Request) (s : State) : State × Reply :=
  (s.setAlerts { s.alerts with pending := s.alerts.pending &&& ~~~(payloadWord r.payload 0) }, plainReply .ok)

/-- A command code that names no command (R148). -/
def decideUnknown (s : State) : State × Reply := unchanged .badValue s

/-! The rows of the table -/

/-- STATUS (R154). -/
def execStatus (r : Request) (s : State) : Host.Outcome State Fault Refusal := .next (takeCommand 1 r decideStatus s)

/-- CLAIM (R156). -/
def execClaim (r : Request) (s : State) : Host.Outcome State Fault Refusal := .next (takeCommand 2 r (decideClaim r) s)

/-- RELEASE (R157). -/
def execRelease (r : Request) (s : State) : Host.Outcome State Fault Refusal := .next (takeCommand 3 r (decideRelease r) s)

/-- SELECT (R151). -/
def execSelect (r : Request) (s : State) : Host.Outcome State Fault Refusal := .next (takeCommand 4 r (decideSelect r) s)

/-- COMMIT (R133). -/
def execCommit (r : Request) (s : State) : Host.Outcome State Fault Refusal := .next (takeCommand 7 r (decideCommit r) s)

/-- RESYNC (R144). -/
def execResync (r : Request) (s : State) : Host.Outcome State Fault Refusal := .next (takeCommand 8 r (decideResync r) s)

/-- CLEAR_STANDBY (R69). -/
def execClearStandby (r : Request) (s : State) : Host.Outcome State Fault Refusal :=
  .next (takeCommand 9 r (decideClearStandby r) s)

/-- MODE (R116). -/
def execMode (r : Request) (s : State) : Host.Outcome State Fault Refusal := .next (takeCommand 10 r (decideMode r) s)

/-- ARM_CAPTURE (R170). -/
def execArmCapture (r : Request) (s : State) : Host.Outcome State Fault Refusal :=
  .next (takeCommand 11 r (decideArmCapture r) s)

/-- PERSIST (R177). -/
def execPersist (r : Request) (s : State) : Host.Outcome State Fault Refusal := .next (takeCommand 12 r (decidePersist r) s)

/-- ACK_ALERT (R164). -/
def execAckAlert (r : Request) (s : State) : Host.Outcome State Fault Refusal := .next (takeCommand 13 r (decideAckAlert r) s)

/-- UNKNOWN_COMMAND (R148). -/
def execUnknownCommand (code : Byte) (r : Request) (s : State) : Host.Outcome State Fault Refusal :=
  .next (takeCommand code r decideUnknown s)

end Sys2Proof.Machine
end

