-- ==== Sys2Proof/Machine/TableReads.lean ====
section
/-! DEFINITION. READ: the item of each table, the refusals of R153, and the rows READ, READ_COUNTERS, READ_CAPTURE. -/

namespace Sys2Proof.Machine

/-- What a READ finds: the owner's refusal, or the item and its flag (R153). -/
inductive ReadResult where
  | refusedWith (a : Answer)
  | item (flag : Bool) (payload : Vector Byte 8)
  deriving DecidableEq, Repr

/-! Items of the banks (R59) -/

/-- Item i of a Coupling Table. -/
def readCt (b : Bank) (i : Nat) : ReadResult := .item false (ctPayload b.rows[Fin.ofNat 64 (i / 8)][Fin.ofNat 8 i])

/-- Item i of a Kernel Store, with the defined flag as item flag. -/
def readKernel (b : Bank) (i : Nat) : ReadResult :=
  let k := b.kernels[Fin.ofNat 128 (i / 4)]
  let tap := fun j : Nat => k.taps[Fin.ofNat 16 (4 * (i % 4) + j)]
  .item k.defined (payloadOfWords (tap 0) (tap 1) (tap 2) (tap 3))

/-- Item i of a Template Table. -/
def readTemplate (b : Bank) (i : Nat) : ReadResult :=
  let t := b.templates[Fin.ofNat 8 (i / 8)]
  let sample := fun j : Nat => t[Fin.ofNat 32 (4 * (i % 8) + j)]
  .item false (payloadOfWords (sample 0) (sample 1) (sample 2) (sample 3))

/-- A READ of a standby table is BUSY while the Bank Engine is not IDLE (R67). -/
def readStandby (s : State) (item : Bank → ReadResult) : ReadResult :=
  if s.banks.engine = .idle then item (standbyBank s.banks) else .refusedWith .busy

/-! The other tables -/

/-- Item i of CAPTURE (R174): channel i div 256, frame index i mod 256. -/
def readCaptureItem (c : Capture) (i : Nat) : ReadResult :=
  match c.state with
  | .idle => .refusedWith .empty
  | .armed | .filling => .refusedWith .busy
  | .done =>
    match c.rows[i % 256]? with
    | none => .refusedWith .empty
    | some row =>
      match row.items[Fin.ofNat 4 (i / 256)] with
      | none => .refusedWith .empty
      | some it => .item (i % 256 == c.kept) (capturePayload row.frame it)

/-- Item i of a table as it stands (R59, R24, R25, R122, R129, R165, R113, R168, R174). -/
def readItem (t : Table) (i : Nat) (s : State) : ReadResult :=
  match t with
  | .standbyCt => readStandby s fun b => readCt b i
  | .standbyKernel => readStandby s fun b => readKernel b i
  | .standbyTemplate => readStandby s fun b => readTemplate b i
  | .liveCt => readCt (liveBank s.banks) i
  | .liveKernel => readKernel (liveBank s.banks) i
  | .liveTemplate => readTemplate (liveBank s.banks) i
  | .slotmap => .item false (slotmapPayload s.slots.map[Fin.ofNat 64 i] s.slots.records[Fin.ofNat 64 i])
  | .targets => .item false (payloadOfSet s.slots.targets)
  | .mutes => .item false (payloadOfSet s.limit.muteSet)
  | .limits => .item false (wordPayload (limitItem s.limit.params i))
  | .alertmap => .item false (alertPayload s.alerts.map[Fin.ofNat 16 i])
  | .pulses => .item false (pulsePayload s.pool[i]?)
  | .counters => .item false (wordPayload s.counters[Fin.ofNat 10 i])
  | .capture => readCaptureItem s.capture i

/-- The answer to a READ under an OPEN context: a refusal leaves the index, an item advances it (R153). -/
def answerRead (t : Table) (r : Request) (s : State) : State × Reply :=
  let c := contextOf r s
  match readItem t c.index s with
  | .refusedWith a => unchanged a s
  | .item flag p => (setContext r (advanceContext t c) s, { answer := .ok, itemFlag := flag, payload := p })

/-- A READ of a COUNTERS item: the value is answered and the counter becomes 0 (R153, R168). -/
def readCounter (r : Request) (s : State) : State × Reply :=
  let a := answerRead .counters r s
  (a.1.setCounters (a.1.counters.set (Fin.ofNat 10 (contextOf r s).index) 0), a.2)

/-- READ as its manager's context decides it: RANGE without an OPEN context (R153). -/
def decideRead (r : Request) (s : State) : State × Reply :=
  let c := contextOf r s
  match c.state, c.table with
  | .opened, some t =>
    match t with
    | .counters => readCounter r s
    | .standbyCt | .standbyKernel | .standbyTemplate | .liveCt | .liveKernel | .liveTemplate | .slotmap | .targets | .mutes
    | .limits | .alertmap | .pulses | .capture => answerRead t r s
  | _, _ => unchanged .range s

/-! The rows of the table; a READ cell whose context is on another row's table is decided by that context (log 5). -/

/-- READ (R153). -/
def execRead (r : Request) (s : State) : Host.Outcome State Fault Refusal := .next (takeCommand 6 r (decideRead r) s)

/-- READ_COUNTERS (R168). -/
def execReadCounters (r : Request) (s : State) : Host.Outcome State Fault Refusal :=
  .next (takeCommand 6 r (fun s => if openOn .counters (contextOf r s) then readCounter r s else decideRead r s) s)

/-- READ_CAPTURE (R174). -/
def execReadCapture (r : Request) (s : State) : Host.Outcome State Fault Refusal :=
  .next (takeCommand 6 r (fun s => if openOn .capture (contextOf r s) then answerRead .capture r s else decideRead r s) s)

end Sys2Proof.Machine
end

