-- ==== Sys2Proof/Machine/TableWrites.lean ====
section
/-! DEFINITION. DATA: the writes of each writable table, the checks of R60 and R152, and the row of each table (chapters 2, 4,
7, 9, 10). -/

namespace Sys2Proof.Machine

/-! Admission -/

/-- An accepted DATA: the index advances, and the answer is OK with the index written (R152). -/
def acceptWrite (r : Request) (t : Table) (s : State) : State × Reply :=
  let c := contextOf r s
  (setContext r (advanceContext t c) s, okReply (wordPayload (BitVec.ofNat 16 c.index)))

/-- A write to a standby table under an OPEN context: lock, Bank Engine IDLE, item (R60, checks 2 to 4). -/
def standbyWrite (r : Request) (t : Table) (edit : Nat → Bank → Option Bank) (s : State) : State × Reply :=
  if !holds r .standby s then unchanged .notHolder s
  else if s.banks.engine ≠ .idle then unchanged .busy s
  else
    match edit (contextOf r s).index (standbyBank s.banks) with
    | none => unchanged .badValue s
    | some b => acceptWrite r t (s.setBanks (setStandby s.banks b))

/-- A write to a configuration table under an OPEN context: lock, item (R152, checks 3 and 4). -/
def configWrite (r : Request) (t : Table) (edit : Nat → State → Option State) (s : State) : State × Reply :=
  if !holds r .config s then unchanged .notHolder s
  else
    match edit (contextOf r s).index s with
    | none => unchanged .badValue s
    | some s' => acceptWrite r t s'

/-! Standby tables (R61 to R65) -/

/-- A bank with one position of its Coupling Table replaced. -/
def setPosition (b : Bank) (t : Slot) (p : Fin 8) (e : Option Entry) : Bank :=
  { b with rows := b.rows.set t (b.rows[t].set p e) }

/-- The entry an item describes, none when a field is out of range (R61). -/
def itemEntry (it : CtItem) : Option Entry :=
  if h : it.source.toNat < 64 ∧ it.kernel.toNat < 128 ∧ it.delay.toNat < 16 then
    some { source := ⟨it.source.toNat, h.1⟩, kernel := ⟨it.kernel.toNat, h.2.1⟩, gain := it.gain,
           delay := ⟨it.delay.toNat, h.2.2⟩, pulseGain := if it.pulsePresent then some it.pulseGain else none }
  else none

/-- Another position of the row holds an entry with this source (R61). -/
def duplicates (row : Row) (p : Fin 8) (source : Slot) : Bool :=
  (List.finRange 8).any fun q => q != p && row[q].any fun e => e.source == source

/-- A REPLACE write to item i of STANDBY_CT (R61). -/
def ctReplace (it : CtItem) (i : Nat) (b : Bank) : Option Bank :=
  let t : Slot := Fin.ofNat 64 (i / 8)
  let p : Fin 8 := Fin.ofNat 8 i
  if !it.present then some (setPosition b t p none)
  else
    match itemEntry it with
    | none => none
    | some e => if e.source = t ∨ duplicates b.rows[t] p e.source then none else some (setPosition b t p (some e))

/-- An entry with the increments of an item added (R62). -/
def addToEntry (it : CtItem) (e : Entry) : Entry :=
  { e with
    gain := addSaturated e.gain it.gain
    pulseGain :=
      match e.pulseGain with
      | some p => some (if it.pulsePresent then addSaturated p it.pulseGain else p)
      | none => if it.pulsePresent then some it.pulseGain else none }

/-- An ADD write to item i of STANDBY_CT (R62). -/
def ctAdd (it : CtItem) (i : Nat) (b : Bank) : Option Bank :=
  let t : Slot := Fin.ofNat 64 (i / 8)
  let p : Fin 8 := Fin.ofNat 8 i
  b.rows[t][p].map fun e => setPosition b t p (some (addToEntry it e))

/-- Words 4q to 4q + 3 of a vector, each combined with the word of the payload at its place (R63 to R65). -/
def editWords {n : Nat} (combine : Word → Word → Word) (p : Vector Byte 8) (q : Nat) (v : Vector Word n) : Vector Word n :=
  Vector.ofFn fun j : Fin n =>
    if j.val / 4 = q then combine v[j] (payloadWord p (Fin.ofNat 4 j.val)) else v[j]

/-- A write to item i of STANDBY_KERNEL; the kernel becomes defined (R63, R64). -/
def kernelEdit (combine : Word → Word → Word) (p : Vector Byte 8) (i : Nat) (b : Bank) : Option Bank :=
  let k : Fin 128 := Fin.ofNat 128 (i / 4)
  some { b with kernels := b.kernels.set k { taps := editWords combine p (i % 4) b.kernels[k].taps, defined := true } }

/-- A write to item i of STANDBY_TEMPLATE (R65). -/
def templateEdit (combine : Word → Word → Word) (p : Vector Byte 8) (i : Nat) (b : Bank) : Option Bank :=
  let k : Fin 8 := Fin.ofNat 8 (i / 8)
  some { b with templates := b.templates.set k (editWords combine p (i % 8) b.templates[k]) }

/-- How a mode combines a stored word with the word of an item: ADD adds saturated, REPLACE replaces (R63 to R65). -/
def combineBy (m : ContextMode) (stored item : Word) : Word := if m = .add then addSaturated stored item else item

/-- DATA on STANDBY_CT in REPLACE mode (R61). -/
def writeCtReplace (r : Request) (s : State) : State × Reply := standbyWrite r .standbyCt (ctReplace (ctItemOf r.payload)) s

/-- DATA on STANDBY_CT in ADD mode (R62). -/
def writeCtAdd (r : Request) (s : State) : State × Reply := standbyWrite r .standbyCt (ctAdd (ctItemOf r.payload)) s

/-- DATA on STANDBY_KERNEL in REPLACE mode (R63). -/
def writeKernelReplace (r : Request) (s : State) : State × Reply :=
  standbyWrite r .standbyKernel (kernelEdit (fun _ item => item) r.payload) s

/-- DATA on STANDBY_KERNEL in ADD mode (R64). -/
def writeKernelAdd (r : Request) (s : State) : State × Reply :=
  standbyWrite r .standbyKernel (kernelEdit addSaturated r.payload) s

/-- DATA on STANDBY_TEMPLATE in either mode (R65). -/
def writeTemplate (r : Request) (s : State) : State × Reply :=
  standbyWrite r .standbyTemplate (templateEdit (combineBy (contextOf r s).mode) r.payload) s

/-! Configuration tables -/

/-- The Slot Map item a SLOTMAP payload gives, none when the cell value is refused (R22). -/
def cellOfByte (b : Byte) : Option (Option (Fin 64)) :=
  if h : b.toNat < 64 then some (some ⟨b.toNat, h⟩) else if b = 0xFF then some none else none

/-- Another logical slot is mapped to this cell (R22). -/
def cellTaken (map : Vector (Option (Fin 64)) 64) (t : Slot) (c : Option (Fin 64)) : Bool :=
  c.isSome && (List.finRange 64).any fun u => u != t && map[u] == c

/-- A slot's mapping changes: a SETTLING or ATTACHED slot is detached (R23). -/
def remap (t : Slot) (c : Option (Fin 64)) (s : State) : State :=
  let mapped := s.setSlots { s.slots with map := s.slots.map.set t c }
  if s.slots.records[t].state = .detached then mapped else detachSlot t mapped

/-- A SLOTMAP write (R22). -/
def editSlotmap (p : Vector Byte 8) (i : Nat) (s : State) : Option State :=
  let t : Slot := Fin.ofNat 64 i
  match cellOfByte p[0] with
  | none => none
  | some c =>
    if s.slots.map[t] = c then some s
    else if cellTaken s.slots.map t c then none
    else some (remap t c s)

/-- A TARGETS write by mode (R25). -/
def editTargets (m : ContextMode) (p : Vector Byte 8) (s : State) : State :=
  let operand := setOfPayload p
  s.setSlots { s.slots with targets :=
    match m with
    | .set => s.slots.targets ||| operand
    | .clear => s.slots.targets &&& ~~~operand
    | .replace | .add | .plain => operand }

/-- A MUTES write by mode (R122). -/
def editMutes (m : ContextMode) (p : Vector Byte 8) (s : State) : State :=
  s.setLimit (if m = .clear then unmuteSlots (setOfPayload p) s.limit else muteSlots (setOfPayload p) s.limit)

/-- A LIMITS write (R129). -/
def editLimits (p : Vector Byte 8) (i : Nat) (s : State) : Option State :=
  let v := payloadWord p 0
  if limitInRange i v then some (s.setLimit { s.limit with params := setLimitItem s.limit.params i v }) else none

/-- An ALERTMAP write (R165). -/
def editAlertmap (p : Vector Byte 8) (i : Nat) (s : State) : Option State :=
  (routeOfCode p[1]).map fun route =>
    s.setAlerts { s.alerts with map := s.alerts.map.set (Fin.ofNat 16 i) { masked := p[0].getLsbD 0, route := route } }

/-- DATA on SLOTMAP (R22). -/
def writeSlotmap (r : Request) (s : State) : State × Reply := configWrite r .slotmap (editSlotmap r.payload) s

/-- DATA on TARGETS (R25). -/
def writeTargets (r : Request) (s : State) : State × Reply :=
  configWrite r .targets (fun _ s => some (editTargets (contextOf r s).mode r.payload s)) s

/-- DATA on MUTES (R122). -/
def writeMutes (r : Request) (s : State) : State × Reply :=
  configWrite r .mutes (fun _ s => some (editMutes (contextOf r s).mode r.payload s)) s

/-- DATA on LIMITS (R129). -/
def writeLimits (r : Request) (s : State) : State × Reply := configWrite r .limits (editLimits r.payload) s

/-- DATA on ALERTMAP (R165). -/
def writeAlertmap (r : Request) (s : State) : State × Reply := configWrite r .alertmap (editAlertmap r.payload) s

/-- DATA as its manager's context decides it: RANGE without an OPEN context, BAD_MODE on a read-only table, otherwise the
write of the table (R60, R152). -/
def decideData (r : Request) (s : State) : State × Reply :=
  let c := contextOf r s
  match c.state, c.table with
  | .opened, some t =>
    match t with
    | .standbyCt => if c.mode = .add then writeCtAdd r s else writeCtReplace r s
    | .standbyKernel => if c.mode = .add then writeKernelAdd r s else writeKernelReplace r s
    | .standbyTemplate => writeTemplate r s
    | .slotmap => writeSlotmap r s
    | .targets => writeTargets r s
    | .mutes => writeMutes r s
    | .limits => writeLimits r s
    | .alertmap => writeAlertmap r s
    | .liveCt | .liveKernel | .liveTemplate | .pulses | .counters | .capture => unchanged .badMode s
  | _, _ => unchanged .range s

/-! The rows of the table. A row's write is done when the context is open on the row's table; a DATA cell whose context is
elsewhere is decided by that context (log 5). -/

/-- DATA of one row: `fits` says whether the context selects the row. -/
def dataRow (fits : LoadContext → Bool) (write : Request → State → State × Reply) (r : Request) (s : State) : State × Reply :=
  if fits (contextOf r s) then write r s else decideData r s

/-- DATA_STANDBY_CT_REPLACE (R61). -/
def execDataStandbyCtReplace (r : Request) (s : State) : Host.Outcome State Fault Refusal :=
  .next (takeCommand 5 r (dataRow (fun c => openOn .standbyCt c && c.mode == .replace) writeCtReplace r) s)

/-- DATA_STANDBY_CT_ADD (R62). -/
def execDataStandbyCtAdd (r : Request) (s : State) : Host.Outcome State Fault Refusal :=
  .next (takeCommand 5 r (dataRow (fun c => openOn .standbyCt c && c.mode == .add) writeCtAdd r) s)

/-- DATA_STANDBY_KERNEL_REPLACE (R63). -/
def execDataStandbyKernelReplace (r : Request) (s : State) : Host.Outcome State Fault Refusal :=
  .next (takeCommand 5 r (dataRow (fun c => openOn .standbyKernel c && c.mode == .replace) writeKernelReplace r) s)

/-- DATA_STANDBY_KERNEL_ADD (R64). -/
def execDataStandbyKernelAdd (r : Request) (s : State) : Host.Outcome State Fault Refusal :=
  .next (takeCommand 5 r (dataRow (fun c => openOn .standbyKernel c && c.mode == .add) writeKernelAdd r) s)

/-- DATA_STANDBY_TEMPLATE (R65). -/
def execDataStandbyTemplate (r : Request) (s : State) : Host.Outcome State Fault Refusal :=
  .next (takeCommand 5 r (dataRow (openOn .standbyTemplate) writeTemplate r) s)

/-- DATA_SLOTMAP (R22). -/
def execDataSlotmap (r : Request) (s : State) : Host.Outcome State Fault Refusal :=
  .next (takeCommand 5 r (dataRow (openOn .slotmap) writeSlotmap r) s)

/-- DATA_TARGETS (R25). -/
def execDataTargets (r : Request) (s : State) : Host.Outcome State Fault Refusal :=
  .next (takeCommand 5 r (dataRow (openOn .targets) writeTargets r) s)

/-- DATA_MUTES (R122). -/
def execDataMutes (r : Request) (s : State) : Host.Outcome State Fault Refusal :=
  .next (takeCommand 5 r (dataRow (openOn .mutes) writeMutes r) s)

/-- DATA_LIMITS (R129). -/
def execDataLimits (r : Request) (s : State) : Host.Outcome State Fault Refusal :=
  .next (takeCommand 5 r (dataRow (openOn .limits) writeLimits r) s)

/-- DATA_ALERTMAP (R165). -/
def execDataAlertmap (r : Request) (s : State) : Host.Outcome State Fault Refusal :=
  .next (takeCommand 5 r (dataRow (openOn .alertmap) writeAlertmap r) s)

end Sys2Proof.Machine
end

