-- ==== Sys2Proof/WellFormed.lean ====
section
/-! DEFINITION. Which terms of Instr stand for a row of the table: the checks on operands that the types do not make. -/

namespace Sys2Proof

/-- Command codes 1 to 14 name the commands of 09 Table 9.7. -/
def namesCommand (code : Byte) : Bool := 1 ≤ code.toNat && code.toNat ≤ 14

/-- The RESET payload asks for a FULL reset when its kind byte holds 1 (R159). -/
def asksFull (r : Request) : Bool := r.payload[0] == 1

/-- A RESET row carries the kind its name says, and an unknown command a code that names none (R148, R159). -/
def Instr.wellFormed : Instr → Bool
  | .outboundFrame _ _ _ => true
  | .returnFrame _ _ => true
  | .lineIdle => true
  | .lockLoss => true
  | .settleEnd _ => true
  | .targetCompletion => true
  | .shockExit => true
  | .lockExpiry _ => true
  | .bankSwap => true
  | .resyncCopyEnd => true
  | .captureComplete => true
  | .persistEnd _ => true
  | .persistTimeLimit => true
  | .status _ => true
  | .claim _ => true
  | .release _ => true
  | .select _ => true
  | .dataStandbyCtReplace _ => true
  | .dataStandbyCtAdd _ => true
  | .dataStandbyKernelReplace _ => true
  | .dataStandbyKernelAdd _ => true
  | .dataStandbyTemplate _ => true
  | .dataSlotmap _ => true
  | .dataTargets _ => true
  | .dataMutes _ => true
  | .dataLimits _ => true
  | .dataAlertmap _ => true
  | .read _ => true
  | .readCounters _ => true
  | .readCapture _ => true
  | .commit _ => true
  | .resync _ => true
  | .clearStandby _ => true
  | .mode _ => true
  | .armCapture _ => true
  | .persist _ => true
  | .ackAlert _ => true
  | .resetFull r => asksFull r
  | .resetWarm r => !asksFull r
  | .unknownCommand code _ => !namesCommand code
  | .powerUp _ _ => true
  | .profileLoadEnd => true
  | .rstNFall => true
  | .rstNRise _ => true
  | .outboundCellArrival => true
  | .lossOfPower => true

end Sys2Proof
end

