-- ==== Sys2Proof/Machine/LoopPort.lean ====
section
/-! DEFINITION. The Loop Ports: lock, the outbound passage with its composition and command area, the return passage, and the
RESET commands, which begin at the end of an outbound passage (chapter 1, R159). -/

namespace Sys2Proof.Machine

/-! Lock (R8, R9) -/

/-- Lock is acquired on a frame (R8). -/
def acquireLock (f : Frame) (s : State) : State :=
  raiseAlert .loopRegained (s.setPorts { s.ports with
    lock := .locked, candidate := none, badRun := 0, lastGood := some { number := f.number, used := f.used },
    frameMatch := .awaiting })

/-- Lock is lost: the ports, and the four blocks that act on it (R9, R43, R93, R110, R175). A passage in composition goes on its
way as it is, and a RESET taken in it begins (log 13). -/
def loseLock (s : State) : State :=
  let c := endPassage s
  (((flushAll (c.setPorts { c.ports with
      lock := .searching, candidate := none, badRun := 0, lastGood := none, frameMatch := .noFrame })).setPool []).setCoupling
    { c.coupling with pass := none }).setCapture Capture.initial

/-- A frame is forwarded on the outbound side. -/
def forwardOutbound (f : Frame) (s : State) : State := s.setPorts { s.ports with outbOut := some f }

/-- A frame is forwarded on the return side. -/
def forwardReturn (f : Frame) (s : State) : State := s.setPorts { s.ports with retOut := some f }

/-- An outbound frame in SEARCHING (R8, R13). -/
def searchOutbound (f : Frame) (s : State) : State :=
  if goodCheck f then
    match s.ports.candidate with
    | some p => if f.number = p + 1 then acquireLock f s else s.setPorts { s.ports with candidate := some f.number }
    | none => s.setPorts { s.ports with candidate := some f.number }
  else bump .outbCheck 1 (s.setPorts { s.ports with candidate := none })

/-- A bad outbound frame in LOCKED: the bad run, and at 8 the loss of lock (R9, R13). -/
def badOutbound (s : State) : State :=
  let c := bump .outbCheck 1 (s.setPorts { s.ports with badRun := s.ports.badRun + 1 })
  if Config.badRunLimit ≤ c.ports.badRun then loseLock c else c

/-! Holes before composition (R11) -/

/-- Holes for the g frame numbers after p, ascending. -/
def giveHoles (p : Word) : Nat → State → State
  | 0, s => s
  | g + 1, s => giveHole (p + BitVec.ofNat 16 (g + 1)) (giveHoles p g s)

/-- The test of a good outbound frame m against the frame-match state and the last good frame p (R11). -/
def gapTest (p m : Word) (s : State) : State :=
  let a :=
    if s.ports.frameMatch = .awaiting then
      bump .retMismatch 1 (giveHole p (s.setPorts { s.ports with frameMatch := .spent }))
    else s
  if Config.gapFlush ≤ frameGap p m then flushAll a else giveHoles p (frameGap p m) a

/-! Composition (R10) -/

/-- The cell at a position of the outgoing frame is composed: a used, mapped cell gets the output selection of its slot. -/
def composeCell (pos : Fin 64) (f : Frame) (s : State) : Frame × State :=
  if pos.val < f.used.toNat then
    match slotAt s.slots.map pos with
    | none => (f, s)
    | some t =>
      let sel := selectOutput s f.number t
      ({ f with cells := f.cells.set pos (writeOutbound f.cells[pos] sel.correction sel.status) }, recordMiss sel.miss s)
  else (f, s)

/-- Every cell from a position on, in ascending position. -/
def composeFrom (next : Nat) (f : Frame) (s : State) : Frame × State :=
  (List.finRange 64).foldl (fun a pos => if next ≤ pos.val then composeCell pos a.1 a.2 else a) (f, s)

/-! The command area (R12) -/

/-- A command decided by its code, RESET apart (R148, 09 Table 9.7). -/
def decideCommand (code : Byte) (r : Request) (s : State) : State × Reply :=
  match code.toNat with
  | 1 => decideStatus s
  | 2 => decideClaim r s
  | 3 => decideRelease r s
  | 4 => decideSelect r s
  | 5 => decideData r s
  | 6 => decideRead r s
  | 7 => decideCommit r s
  | 8 => decideResync r s
  | 9 => decideClearStandby r s
  | 10 => decideMode r s
  | 11 => decideArmCapture r s
  | 12 => decidePersist r s
  | 13 => decideAckAlert r s
  | _ => decideUnknown s

/-- The entry a taken RESET reserves, never made ready (R159). -/
def reserveEntry (s : State) : State := s.setMgmt { s.mgmt with queue := s.mgmt.queue ++ [.reserved] }

/-- What a taken cell leaves in the frame: EMPTY, or the cell itself when it is addressed to 15 (R12). -/
def takenCell (c : MgmtCell) : MgmtCell := if cellDestination c = Config.broadcastNode then c else emptyCell

/-- What the command area has come to: the state, and the RESET taken so far. -/
structure AreaStep where
  state : State
  reset : Option ResetKind
  deriving DecidableEq, Repr

/-- One cell of the command area (R12): behind a RESET, or not addressed to the part, it passes unchanged; with the queue full it
is declined; otherwise it is taken. -/
def areaCell (a : AreaStep) (c : MgmtCell) : AreaStep × MgmtCell :=
  if a.reset.isSome || !addressedTo a.state.startUp.node c then (a, c)
  else if !entryFree a.state then ({ a with state := bump .cmdDeclined 1 a.state }, declineCell c)
  else if c.code = 14 then
    ({ state := reserveEntry (renewLeases (cellRequest c) a.state)
       reset := some (if asksFull (cellRequest c) then .full else .warm) }, takenCell c)
  else
    ({ a with state := answerCommand c.code (cellRequest c) (decideCommand c.code (cellRequest c)) a.state }, takenCell c)

/-- Cell i of the command area when only the cells from `lo` up to `hi` are handled in this walk; the others stay as they are. -/
def areaCellWithin (lo hi : Nat) (cells : Vector MgmtCell 4) (a : AreaStep) (i : Fin 4) : AreaStep × MgmtCell :=
  if lo ≤ i.val ∧ i.val < hi then areaCell a cells[i] else (a, cells[i])

/-- The command cells from `lo` up to `hi`, in cell order (R12). -/
def takeCells (lo hi : Nat) (cells : Vector MgmtCell 4) (a : AreaStep) : AreaStep × Vector MgmtCell 4 :=
  let a0 := areaCellWithin lo hi cells a 0
  let a1 := areaCellWithin lo hi cells a0.1 1
  let a2 := areaCellWithin lo hi cells a1.1 2
  let a3 := areaCellWithin lo hi cells a2.1 3
  (a3.1, #v[a0.2, a1.2, a2.2, a3.2])

/-- The first k command cells, from no RESET taken: the whole area with k = 4, and what a passage cut behind its first k command
cells takes (R7, R12). -/
def takeFirst (k : Nat) (cells : Vector MgmtCell 4) (s : State) : AreaStep × Vector MgmtCell 4 :=
  takeCells 0 k cells { state := s, reset := none }

/-- The end of an outbound passage with what its command area has come to: check, last good frame, and a RESET taken (R10). -/
def endOutbound (f : Frame) (a : AreaStep × Vector MgmtCell 4) : State :=
  beginReset a.1.reset (a.1.state.setPorts { a.1.state.ports with
    lastGood := some { number := f.number, used := f.used }, frameMatch := .awaiting, badRun := 0, composing := none,
    outbOut := some (regenerate { f with commands := a.2 }) })

/-- The end of an outbound passage whose cells are composed: the command area, and the rest (R10, R12). -/
def finishOutbound (f : Frame) (s : State) : State := endOutbound f (takeFirst 4 f.commands s)

/-- The rest of a passage in composition is composed and finished. -/
def finishPassage (s : State) : State :=
  match s.ports.composing with
  | none => s
  | some c =>
    let a := composeFrom c.next c.frame s
    endOutbound a.1 (takeCells (c.next - c.frame.used.toNat) 4 a.1.commands { state := a.2, reset := c.reset })

/-- A good outbound frame in LOCKED (R10, R11). -/
def lockedOutbound (f : Frame) (mode : Composition) (s : State) : State :=
  let g := match s.ports.lastGood with
    | some p => gapTest p.number f.number s
    | none => s
  match mode with
  | .atOnce => let a := composeFrom 0 f g; finishOutbound a.1 a.2
  | .byCell => g.setPorts { g.ports with composing := some { frame := f, next := 0, reset := none } }
  | .cut k => let a := composeFrom 0 f g; endOutbound a.1 (takeFirst k.val a.1.commands a.2)

/-! The return passage (R14 to R17, R166) -/

/-- The response area in cell order: each EMPTY cell receives the response at the head of the queue (R15). -/
def fillResponses (cells : List MgmtCell) (queue : List QueueEntry) : List MgmtCell × List QueueEntry :=
  match cells with
  | [] => ([], queue)
  | c :: rest =>
    match cellKind c, queue with
    | .empty, .ready x :: q => let a := fillResponses rest q; (x :: a.1, a.2)
    | _, _ => let a := fillResponses rest queue; (c :: a.1, a.2)

/-- The response area of a frame after the part has filled it; the area keeps its four cells. -/
def filledArea (cells : Vector MgmtCell 4) (queue : List QueueEntry) : Vector MgmtCell 4 :=
  Vector.ofFn fun i : Fin 4 => ((fillResponses cells.toList queue).1)[i.val]?.getD cells[i]

/-- A return frame that belongs to the last good outbound frame (R14). -/
def matchesReturn (p : LoopPorts) (f : Frame) : Bool :=
  p.frameMatch == .awaiting && p.lastGood == some { number := f.number, used := f.used }

/-- The outgoing return frame: responses, alert report, new check (R15, R166). -/
def writtenReturn (f : Frame) (s : State) : Frame :=
  regenerate { f with
    responses := filledArea f.responses s.mgmt.queue
    alert := mergeAlert f.alert (alertReport s.alerts) s.startUp.node }

/-- A good, matching return (R15): responses leave the queue, the match state is SPENT, and the boundary of the frame follows. -/
def matchedReturn (f : Frame) (s : State) : State :=
  frameBoundary f
    ((s.setPorts { s.ports with frameMatch := .spent, retOut := some (writtenReturn f s) }).setMgmt
      { s.mgmt with queue := (fillResponses f.responses.toList s.mgmt.queue).2 })

/-- A bad or mismatched return: counted, forwarded unchanged, and a hole for an awaited frame (R17). -/
def failedReturn (c : CounterId) (f : Frame) (s : State) : State :=
  let counted := forwardReturn f (bump c 1 s)
  match s.ports.frameMatch, s.ports.lastGood with
  | .awaiting, some p => giveHole p.number (counted.setPorts { counted.ports with frameMatch := .spent })
  | _, _ => counted

/-- A return frame on the loop (R15, R17). -/
def receivedReturn (f : Frame) (s : State) : State :=
  if !goodCheck f then failedReturn .retCheck f s
  else if matchesReturn s.ports f then matchedReturn f s
  else failedReturn .retMismatch f s

/-- A matching return that the start of a TRANSPARENT span cuts: it keeps the responses, and the alert report, written until then
and gets a new check, and no boundary follows (R7, log 18). -/
def cutReturn (cells : Fin 5) (report : Bool) (f : Frame) (s : State) : State :=
  let a := fillResponses (f.responses.toList.take cells.val) s.mgmt.queue
  let out := regenerate { f with
    responses := Vector.ofFn fun i : Fin 4 => a.1[i.val]?.getD f.responses[i]
    alert := if report then mergeAlert f.alert (alertReport s.alerts) s.startUp.node else f.alert }
  (s.setPorts { s.ports with frameMatch := .spent, retOut := some out }).setMgmt { s.mgmt with queue := a.2 }

/-! The rows of the table -/

/-- OUTBOUND_FRAME (R7, R8, R10, R13). Without supply nothing passes. A frame whose passage was in progress at the last change of
port condition passes as a transparent one (log 3). A passage still in composition is finished first (log 13). -/
def execOutboundFrame (f : Frame) (start : PassageStart) (mode : Composition) (s : State) : Host.Outcome State Fault Refusal :=
  if s.startUp.phase = .unpowered then .next s
  else
    let d := finishPassage s
    if d.ports.condition = .transparent ∨ start = .earlier then .next (forwardOutbound f d)
    else
      match d.ports.lock with
      | .searching => .next (searchOutbound f (forwardOutbound f d))
      | .locked =>
        if goodCheck f then .next (lockedOutbound f mode d) else .next (badOutbound (forwardOutbound f d))

/-- RETURN_FRAME (R7, R8, R15, R17). -/
def execReturnFrame (f : Frame) (passage : ReturnPassage) (s : State) : Host.Outcome State Fault Refusal :=
  if s.startUp.phase = .unpowered then .next s
  else if !onLoop s || passage == .earlier then .next (forwardReturn f s)
  else
    match passage with
    | .cut cells report => .next (if goodCheck f && matchesReturn s.ports f then cutReturn cells report f s else forwardReturn f s)
    | .current | .earlier => .next (receivedReturn f s)

/-- LINE_IDLE (R8, R9): in SEARCHING the candidate becomes none, in LOCKED lock is lost. -/
def execLineIdle (s : State) : Host.Outcome State Fault Refusal :=
  match s.ports.condition, s.ports.lock with
  | .active, .searching => .next (s.setPorts { s.ports with candidate := none })
  | .active, .locked => .next (loseLock s)
  | .transparent, _ => .next s

/-- LOCK_LOSS (R9). -/
def execLockLoss (s : State) : Host.Outcome State Fault Refusal := .next (if onLoop s then loseLock s else s)

/-- A command cell of a passage in composition arrives (R12); the fourth ends the passage (log 2). -/
def arriveCommand (c : Composing) (s : State) : State :=
  let j : Fin 4 := Fin.ofNat 4 (c.next - c.frame.used.toNat)
  let a := areaCell { state := s, reset := c.reset } c.frame.commands[j]
  let f := { c.frame with commands := c.frame.commands.set j a.2 }
  if c.next + 1 < c.frame.used.toNat + 4 then
    a.1.state.setPorts { a.1.state.ports with composing := some { frame := f, next := c.next + 1, reset := a.1.reset } }
  else endOutbound f (a.1, f.commands)

/-- OUTBOUND_CELL_ARRIVAL (R10, R12, R85): the next cell of the passage in composition arrives, a used slot cell to be composed or,
behind them, a command cell. -/
def execOutboundCellArrival (s : State) : Host.Outcome State Fault Refusal :=
  match s.ports.composing with
  | none => .next s
  | some c =>
    if c.next < c.frame.used.toNat then
      let a := composeCell (Fin.ofNat 64 c.next) c.frame s
      .next (a.2.setPorts { a.2.ports with composing := some { c with frame := a.1, next := c.next + 1 } })
    else .next (arriveCommand c s)

/-- The slot cells of a passage in composition are composed and the frame goes out with its command area as it is: the passage that
carried a RESET (R18). -/
def closePassage (s : State) : State :=
  match s.ports.composing with
  | none => s
  | some c =>
    let a := composeFrom c.next c.frame s
    cutPassage (a.2.setPorts { a.2.ports with composing := some { c with frame := a.1 } })

/-- A RESET cell addressed to the part reaches it: declined with the queue full, otherwise taken, and the reset begins at the end of
the passage (R12, R159). The first RESET taken in a passage is the one that acts (R18); a RESET row behind it that finds the queue full is
still declined and counted (DESIGN CHOICE, log 21). -/
def takeReset (k : ResetKind) (r : Request) (s : State) : State :=
  if onLoop s then
    if entryFree s then
      beginReset (some ((passageReset s).getD k)) (reserveEntry (renewLeases r (closePassage s)))
    else bump .cmdDeclined 1 s
  else s

/-- RESET_FULL (R180). -/
def execResetFull (r : Request) (s : State) : Host.Outcome State Fault Refusal := .next (takeReset .full r s)

/-- RESET_WARM (R181). -/
def execResetWarm (r : Request) (s : State) : Host.Outcome State Fault Refusal := .next (takeReset .warm r s)

end Sys2Proof.Machine
end

