-- ==== Sys2Proof/Machine/Dispatch.lean ====
section
/-! DEFINITION. One arm per command: which definition gives it its meaning. -/

namespace Sys2Proof.Machine

/-- The effect of a command on everything but the queue. -/
def exec (i : Instr) (s : State) : Host.Outcome State Fault Refusal :=
  match i with
  | .outboundFrame f start mode => Sys2Proof.Machine.execOutboundFrame f start mode s
  | .returnFrame f passage => Sys2Proof.Machine.execReturnFrame f passage s
  | .lineIdle => Sys2Proof.Machine.execLineIdle s
  | .lockLoss => Sys2Proof.Machine.execLockLoss s
  | .settleEnd t => Sys2Proof.Machine.execSettleEnd t s
  | .targetCompletion => Sys2Proof.Machine.execTargetCompletion s
  | .shockExit => Sys2Proof.Machine.execShockExit s
  | .lockExpiry d => Sys2Proof.Machine.execLockExpiry d s
  | .bankSwap => Sys2Proof.Machine.execBankSwap s
  | .resyncCopyEnd => Sys2Proof.Machine.execResyncCopyEnd s
  | .captureComplete => Sys2Proof.Machine.execCaptureComplete s
  | .persistEnd outcome => Sys2Proof.Machine.execPersistEnd outcome s
  | .persistTimeLimit => Sys2Proof.Machine.execPersistTimeLimit s
  | .status r => Sys2Proof.Machine.execStatus r s
  | .claim r => Sys2Proof.Machine.execClaim r s
  | .release r => Sys2Proof.Machine.execRelease r s
  | .select r => Sys2Proof.Machine.execSelect r s
  | .dataStandbyCtReplace r => Sys2Proof.Machine.execDataStandbyCtReplace r s
  | .dataStandbyCtAdd r => Sys2Proof.Machine.execDataStandbyCtAdd r s
  | .dataStandbyKernelReplace r => Sys2Proof.Machine.execDataStandbyKernelReplace r s
  | .dataStandbyKernelAdd r => Sys2Proof.Machine.execDataStandbyKernelAdd r s
  | .dataStandbyTemplate r => Sys2Proof.Machine.execDataStandbyTemplate r s
  | .dataSlotmap r => Sys2Proof.Machine.execDataSlotmap r s
  | .dataTargets r => Sys2Proof.Machine.execDataTargets r s
  | .dataMutes r => Sys2Proof.Machine.execDataMutes r s
  | .dataLimits r => Sys2Proof.Machine.execDataLimits r s
  | .dataAlertmap r => Sys2Proof.Machine.execDataAlertmap r s
  | .read r => Sys2Proof.Machine.execRead r s
  | .readCounters r => Sys2Proof.Machine.execReadCounters r s
  | .readCapture r => Sys2Proof.Machine.execReadCapture r s
  | .commit r => Sys2Proof.Machine.execCommit r s
  | .resync r => Sys2Proof.Machine.execResync r s
  | .clearStandby r => Sys2Proof.Machine.execClearStandby r s
  | .mode r => Sys2Proof.Machine.execMode r s
  | .armCapture r => Sys2Proof.Machine.execArmCapture r s
  | .persist r => Sys2Proof.Machine.execPersist r s
  | .ackAlert r => Sys2Proof.Machine.execAckAlert r s
  | .resetFull r => Sys2Proof.Machine.execResetFull r s
  | .resetWarm r => Sys2Proof.Machine.execResetWarm r s
  | .unknownCommand code r => Sys2Proof.Machine.execUnknownCommand code r s
  | .powerUp straps rstHigh => Sys2Proof.Machine.execPowerUp straps rstHigh s
  | .profileLoadEnd => Sys2Proof.Machine.execProfileLoadEnd s
  | .rstNFall => Sys2Proof.Machine.execRstNFall s
  | .rstNRise straps => Sys2Proof.Machine.execRstNRise straps s
  | .outboundCellArrival => Sys2Proof.Machine.execOutboundCellArrival s
  | .lossOfPower => Sys2Proof.Machine.execLossOfPower s

end Sys2Proof.Machine
end

