-- ==== Sys2Proof/Machine/Step.lean ====
section
/-! DEFINITION. One step: the command at the front of the queue, or a piece of a running pass when nothing waits. -/

namespace Sys2Proof.Machine

/-- One step of the part. With nothing waiting, a running pass does a piece of its work, and an idle part stays as it is
(log 14). -/
def step (s : State) : Host.Outcome State Fault Refusal :=
  match s.pending with
  | [] => .next (passTick s)
  | c :: rest => exec c (s.setPending rest)

/-- The state with the command a word spells at the front of its queue, unchanged when it spells none (log 17). -/
def State.withFetchWord (s : State) (nbits w : Nat) : State :=
  match decodeTableWord nbits w with
  | some c => s.setPending (c :: s.pending)
  | none => s

end Sys2Proof.Machine
end

