-- ==== Sys2Proof/Safety.lean ====
section
/-! DEFINITION. What a lawful state of the part is, rule by rule: the properties every step is claimed to keep. No step of this
model ends in a fault or a refusal, so safety is these invariants. -/

namespace Sys2Proof.Machine

/-! Loop Ports -/

/-- The port condition is ACTIVE exactly while no profile load or power-up is going on and RST_N is high (R7); lock, last good
frame, match state, candidate and bad run agree (R8, R9, R14); a passage is in composition only on the loop, its frame has a valid
used-cell count, some of its cells are still to come, and no return is awaited (R10, R11). -/
def PortsLawful (s : State) : Prop :=
  (s.ports.condition = .active ↔ s.startUp.phase = .running ∧ s.startUp.rstN = true) ∧
  (s.ports.lock = .locked ↔ s.ports.lastGood.isSome = true) ∧
  (s.ports.frameMatch = .noFrame ↔ s.ports.lastGood = none) ∧
  (s.ports.lock = .locked → s.ports.candidate = none) ∧
  (s.ports.lock = .searching → s.ports.badRun = 0) ∧
  s.ports.badRun < Config.badRunLimit ∧
  (∀ c, s.ports.composing = some c →
    s.ports.condition = .active ∧ s.ports.lock = .locked ∧ s.ports.frameMatch ≠ .awaiting ∧ validUsed c.frame = true ∧
      c.next < c.frame.used.toNat + 4)

/-- While the part is not on the loop, no pass runs and every history holds holes only (R43, R49, R73, R93, R95). -/
def OffLoopLawful (s : State) : Prop :=
  ¬ (s.ports.condition = .active ∧ s.ports.lock = .locked) →
    s.coupling.pass = none ∧ ∀ t : Slot, s.intake.history[t] = History.holes

/-! Slots -/

/-- No two logical slots are mapped to one physical cell (R21). -/
def MapInjective (map : Vector (Option (Fin 64)) 64) : Prop :=
  ∀ (t u : Slot) (c : Fin 64), map[t] = some c → map[u] = some c → t = u

/-- The Slot Map, the stored one and a snapshot obey R21. -/
def MapsLawful (s : State) : Prop :=
  MapInjective s.slots.map ∧
  (∀ im, s.profile.image = some im → MapInjective im.slotMap) ∧
  (∀ p, s.profile.running = some p → MapInjective p.snapshot.slotMap)

/-- The settle count is 0 in DETACHED and ATTACHED, and 1 to 256 in SETTLING (R27). -/
def SettleCountLawful (r : SlotRecord) : Prop :=
  match r.state with
  | .settling => 1 ≤ r.settle ∧ r.settle ≤ Config.settlePeriod
  | .detached | .attached => r.settle = 0

/-- Every runtime record obeys R27. -/
def RecordsLawful (s : State) : Prop := ∀ t : Slot, SettleCountLawful s.slots.records[t]

/-! Banks -/

/-- No row holds two entries of one source or an entry whose source is its target (R54). -/
def RowsLawful (b : Bank) : Prop := ∀ t : Slot, lawfulRow t b.rows[t] = true

/-- Both banks and the stored one obey R54. -/
def BanksLawful (s : State) : Prop :=
  RowsLawful s.banks.bankA ∧ RowsLawful s.banks.bankB ∧ ∀ im, s.profile.image = some im → RowsLawful im.bank

/-- Progress and operation kind against the Bank Engine state (R132). -/
def EngineLawful (s : State) : Prop :=
  match s.banks.engine with
  | .idle => s.banks.progress = 0 ∧ s.banks.operation = none
  | .validating =>
    s.banks.progress % 4 = 0 ∧ s.banks.progress ≤ 60 ∧ s.banks.operation = some .commit ∧ s.banks.standbyCondition = .clean
  | .swapPending => s.banks.progress = 0 ∧ s.banks.operation = some .commit ∧ s.banks.standbyCondition = .clean
  | .resync => s.banks.progress % 8 = 0 ∧ s.banks.progress ≤ 192 ∧ s.banks.operation.isSome = true

/-! Coupling Engine -/

/-- Every last correction lies within -32,767 to +32,767 (R3, R72). -/
def CorrectionsLawful (s : State) : Prop := ∀ t : Slot, -32767 ≤ s.coupling.targets[t].last.toInt

/-! Pulse Pool -/

/-- The instances of a pool hold the play position and the play state of one frame (R97, R98). -/
def EvaluatedTogether (pool : List Pulse) : Prop := ∃ m : Word, ∀ q, q ∈ pool → evaluatePulse m q = some q

/-- At most 24 instances, one per source at most, evaluated for one frame and in order of onset and source; empty in OFF and
SHOCK_HOLD and without lock (R96, R98). -/
def PoolLawful (s : State) : Prop :=
  s.pool.length ≤ Config.poolCapacity ∧ (s.pool.map (·.source)).Nodup ∧ EvaluatedTogether s.pool ∧
  s.pool.Pairwise (fun a b => b.position < a.position ∨ (a.position = b.position ∧ a.source < b.source)) ∧
  (s.limit.mode = .off ∨ s.limit.mode = .shockHold ∨ s.ports.lock = .searching → s.pool = [])

/-! Limit Monitor -/

/-- A target is muted exactly when it is a member of the Mute Set (R122). -/
def MutesLawful (s : State) : Prop :=
  ∀ t : Slot, s.limit.records[t].level = .muted ↔ s.limit.muteSet.getLsbD t = true

/-- Each of six parameters lies in its range (R129). -/
def LimitsInRange (p : Limits) : Prop := ∀ i, i < 6 → limitInRange i (limitItem p i) = true

/-- A target's saturation count is 0 to 1,027; its recovery run is 0 to 65,535, and 0 at NORMAL and MUTED (R119). -/
def LadderLawful (r : LimitRecord) : Prop :=
  r.saturation ≤ 1027 ∧ r.recovery ≤ 65535 ∧ (r.level = .normal ∨ r.level = .muted → r.recovery = 0)

/-- The Limit Parameters, the stored ones and a snapshot are in range; the ladder records are; and the hold-off count is 1 to
4,096 with a saved mode in SHOCK_HOLD, and 0 outside it (R119, R124, R126, R129). -/
def LimitsLawful (s : State) : Prop :=
  LimitsInRange s.limit.params ∧
  (∀ im, s.profile.image = some im → LimitsInRange im.params) ∧
  (∀ p, s.profile.running = some p → LimitsInRange p.snapshot.params) ∧
  (∀ t : Slot, LadderLawful s.limit.records[t]) ∧
  (if s.limit.mode = .shockHold then
      1 ≤ s.limit.holdOff ∧ s.limit.holdOff ≤ 4096 ∧ s.limit.saved.isSome = true ∧ s.limit.request = none
    else s.limit.holdOff = 0)

/-! Management -/

/-- The Response Queue holds at most 8 entries, and an entry is reserved only while a passage that has taken a RESET goes on (R149,
R159). -/
def QueueLawful (s : State) : Prop :=
  s.mgmt.queue.length ≤ Config.queueCapacity ∧
  ∀ e, e ∈ s.mgmt.queue → e = .reserved → (passageReset s).isSome = true

/-- A holder has a tag from 1 to 127 and a lease count from 0 to 32,767 (R156, R158). -/
def LocksLawful (s : State) : Prop :=
  ∀ (d : Domain) (h : Holder), lockOf s.mgmt.locks d = some h → h.tag ≠ 0 ∧ h.lease < Config.leaseLimit

/-- An OPEN context names a table, one of its modes and an item of it; an EXHAUSTED one stands past the last item; a context in
NONE selects nothing (R151, R152). -/
def ContextLawful (c : LoadContext) : Prop :=
  match c.state, c.table with
  | .unselected, none => c.index = 0 ∧ c.mode = .plain
  | .unselected, some _ => False
  | .opened, some t => c.index < itemCount t ∧ admitsMode t c.mode = true
  | .exhausted, some t => c.index = itemCount t ∧ admitsMode t c.mode = true
  | .opened, none => False
  | .exhausted, none => False

/-- Every Load Context obeys R151. -/
def ContextsLawful (s : State) : Prop := ∀ m : ManagerId, ContextLawful s.mgmt.contexts[m]

/-! Capture -/

/-- The recording against the capture state: what is recorded, kept and remaining (R170 to R173); items are in progress only
while a pass runs (R94). -/
def CaptureLawful (s : State) : Prop :=
  s.capture.preTrigger ≤ Config.preTriggerMax ∧ s.capture.kept ≤ s.capture.preTrigger ∧
  (s.capture.begun.isSome = true → s.coupling.pass.isSome = true) ∧
  match s.capture.state with
  | .idle => s.capture = Capture.initial
  | .armed => s.capture.rows.length ≤ Config.captureLength ∧ s.capture.kept = 0 ∧ s.capture.remaining = 0
  | .filling =>
    1 ≤ s.capture.remaining ∧ s.capture.remaining ≤ Config.captureLength - s.capture.preTrigger ∧
    s.capture.rows.length + s.capture.remaining = s.capture.kept + (Config.captureLength - s.capture.preTrigger)
  | .done =>
    s.capture.remaining = 0 ∧ s.capture.begun = none ∧
    s.capture.rows.length = s.capture.kept + (Config.captureLength - s.capture.preTrigger)

/-! Profile -/

/-- The profile is GOOD only while its stored CRC matches its stored contents; during a PERSIST it is TORN, the time count is
below 20,000 and no commit runs (R133, R155, R176, R178). -/
def ProfileLawful (s : State) : Prop :=
  (s.profile.condition = .good → ∃ im, s.profile.image = some im ∧ crc32 (profileBytes im) = s.profile.crc) ∧
  (∀ p, s.profile.running = some p →
    s.profile.condition = .torn ∧ p.count < Config.persistLimit ∧ s.banks.operation ≠ some .commit)

/-! Words the statements are made of -/

/-- The ports are ACTIVE and LOCKED. -/
def OnLoop (s : State) : Prop := s.ports.condition = .active ∧ s.ports.lock = .locked

/-- The part has its supply, and no outbound passage is in composition. -/
def Quiet (s : State) : Prop := s.startUp.phase ≠ .unpowered ∧ s.ports.composing = none

/-- A good, matching return of frame f: the conditions of R14 on the loop. -/
def Matching (f : Frame) (s : State) : Prop :=
  s.startUp.phase ≠ .unpowered ∧ OnLoop s ∧ goodCheck f = true ∧ s.ports.frameMatch = .awaiting ∧
  s.ports.lastGood = some { number := f.number, used := f.used }

/-- The (manager id, tag) of a request holds a domain; a tag of 0 holds none (R148, R156). -/
def Holds (r : Request) (d : Domain) (s : State) : Prop :=
  r.tag ≠ 0 ∧ ∃ h, lockOf s.mgmt.locks d = some h ∧ h.manager = r.manager ∧ h.tag = r.tag

/-- A command of request r that reaches the part in s is taken: the part is on the loop and an entry of the Response Queue is
free (R12), whether a passage is in composition or not (log 21). It is decided in u, the state with the leases of its manager id and
tag renewed (R158). -/
def Taken (r : Request) (s u : State) : Prop :=
  OnLoop s ∧ s.mgmt.queue.length < Config.queueCapacity ∧ u = renewLeases r s

/-- Command i, of code `code` and request r, completes in s: it leaves v with the one answer a at the tail of the Response Queue
(R148, R149). -/
def Answered (i : Instr) (code : Byte) (r : Request) (a : Reply) (s v : State) : Prop :=
  exec i s = .next (enqueue code r a v)

/-- A DATA command i on table t is accepted: it leaves v with the context's index advanced, and answers OK with the index
written (R152). -/
def AcceptedData (i : Instr) (r : Request) (t : Table) (s u v : State) : Prop :=
  Answered i 5 r (okReply (wordPayload (BitVec.ofNat 16 (contextOf r u).index))) s
    (setContext r (advanceContext t (contextOf r u)) v)

/-- A READ row i on table t answers OK with an item: it leaves v with the context's index advanced (R153). -/
def AnsweredItem (i : Instr) (r : Request) (t : Table) (flag : Bool) (payload : Vector Byte 8) (s u v : State) : Prop :=
  Answered i 6 r { answer := .ok, itemFlag := flag, payload := payload } s (setContext r (advanceContext t (contextOf r u)) v)

/-- The Load Context of the request's manager is OPEN on item n of table t in mode m. -/
def OpenAt (r : Request) (s : State) (t : Table) (n : Nat) (m : ContextMode) : Prop :=
  contextOf r s = { table := some t, index := n, mode := m, state := .opened }

/-- Counter c incremented k times. -/
def counted (c : Fin 10) (k : Nat) (v : Vector Word 10) : Vector Word 10 := v.set c (countUp v[c] k)

/-- Alert source n made pending. -/
def withPending (n : Fin 16) (u : AlertUnit) : AlertUnit := { u with pending := u.pending ||| (1 <<< n.val) }

/-- The number of ATTACHED slots. -/
def attachedSlots (s : State) : Nat := (List.finRange 64).countP fun t => s.slots.records[t].state == .attached

/-- The history of every slot with n holes given, for the frame numbers up to `last` (R38, R40). -/
def withHoles (n : Nat) (last : Word) (h : Intake) : Intake :=
  { history := Vector.ofFn fun t : Fin 64 => Vector.ofFn fun a : Fin 32 =>
      if a.val < n then none else h.history[t][a.val - n]
    head := some last }

/-- Every history flushed, the head as it was (R43). -/
def flushedIntake (h : Intake) : Intake := { h with history := Vector.replicate 64 History.holes }

/-- The output selection of R82 for target t in frame n, as its table: correction, status, and whether it is a deadline miss. -/
def Selects (s : State) (n : Word) (t : Slot) (correction : Word) (status : CellStatus) (miss : Bool) : Prop :=
  let settling := s.slots.records[t].state = .settling
  let member := s.slots.targets.getLsbD t = true
  let muted := s.limit.muteSet.getLsbD t = true
  let last := s.coupling.targets[t].last
  let fresh := s.coupling.targets[t].fresh = true ∧ s.coupling.targets[t].stamp = some (n - 1)
  (settling ∧ correction = 0 ∧ status = .settling ∧ miss = false) ∨
  (¬ settling ∧ ¬ member ∧ correction = 0 ∧ status = .off ∧ miss = false) ∨
  (¬ settling ∧ member ∧ muted ∧ correction = 0 ∧ status = .muted ∧ miss = false) ∨
  (¬ settling ∧ member ∧ ¬ muted ∧ s.limit.mode = .off ∧ correction = 0 ∧ status = .off ∧ miss = false) ∨
  (¬ settling ∧ member ∧ ¬ muted ∧ s.limit.mode = .shockHold ∧ correction = 0 ∧ status = .shock ∧ miss = false) ∨
  (¬ settling ∧ member ∧ ¬ muted ∧ s.limit.mode = .freeze ∧ correction = last ∧ status = .held ∧ miss = false) ∨
  (¬ settling ∧ member ∧ ¬ muted ∧ s.limit.mode = .run ∧ fresh ∧ correction = last ∧ status = .fresh ∧ miss = false) ∨
  (¬ settling ∧ member ∧ ¬ muted ∧ s.limit.mode = .run ∧ ¬ fresh ∧ correction = last ∧ status = .held ∧ miss = true)

/-- The status a capture item of slot t keeps for the boundary of frame m, as the table of R171. -/
def KeepsStatus (s : State) (m : Word) (t : Slot) (status : CellStatus) : Prop :=
  let settling := s.slots.records[t].state = .settling
  let member := s.slots.targets.getLsbD t = true
  let muted := s.limit.muteSet.getLsbD t = true
  (settling ∧ status = .settling) ∨
  (¬ settling ∧ ¬ member ∧ status = .off) ∨
  (¬ settling ∧ member ∧ muted ∧ status = .muted) ∨
  (¬ settling ∧ member ∧ ¬ muted ∧ s.limit.mode = .off ∧ status = .off) ∨
  (¬ settling ∧ member ∧ ¬ muted ∧ s.limit.mode = .shockHold ∧ status = .shock) ∨
  (¬ settling ∧ member ∧ ¬ muted ∧ s.limit.mode = .freeze ∧ status = .held) ∨
  (¬ settling ∧ member ∧ ¬ muted ∧ s.limit.mode = .run ∧ s.coupling.targets[t].stamp = some m ∧ status = .fresh) ∨
  (¬ settling ∧ member ∧ ¬ muted ∧ s.limit.mode = .run ∧ s.coupling.targets[t].stamp ≠ some m ∧ status = .held)

/-- The row holds the completed items of frame m, with these entries and what else an item keeps as it stands in s (R171). -/
def IsRow (row : CaptureRow) (m : Word) (entry : Fin 4 → Option Word) (s : State) : Prop :=
  row.frame = m ∧
  ∀ c : Fin 4,
    (s.capture.channels[c] = none → row.items[c] = none) ∧
    (∀ t, s.capture.channels[c] = some t → ∃ status, KeepsStatus s m t status ∧
      row.items[c] = some { sample := entry c, last := s.coupling.targets[t].last, status := status })

/-- A capture whose items in progress have completed as this row: the newest 256 rows stay, and a filling has one boundary less to
go (R172, R173). -/
def recorded (c : Capture) (row : CaptureRow) : Capture :=
  let rows := (c.rows ++ [row]).drop (c.rows.length + 1 - 256)
  if c.state = .filling then
    { c with
      rows := rows, begun := none, remaining := c.remaining - 1, state := if c.remaining - 1 = 0 then .done else .filling }
  else { c with rows := rows, begun := none }

/-- The sled of slot t is present in frame f under a Slot Map (R27). -/
def Present (f : Frame) (map : Vector (Option (Fin 64)) 64) (t : Slot) : Prop :=
  ∃ c : Fin 64, map[t] = some c ∧ c.val < f.used.toNat ∧ isPresent f.cells[c] = true

/-- What a change of slot t's mapping to c leaves: the map, and a detach when the slot was SETTLING or ATTACHED (R22, R23, R31). -/
def remapped (t : Slot) (c : Option (Fin 64)) (u : State) : State :=
  if u.slots.records[t].state = .detached then { u with slots := { u.slots with map := u.slots.map.set t c } }
  else
    { u with
      slots := { u.slots with map := u.slots.map.set t c, records := u.slots.records.set t { state := .detached, settle := 0 } }
      intake := { u.intake with history := u.intake.history.set t History.holes }
      pool := u.pool.filter fun q => q.source != t
      alerts := withPending 12 u.alerts }

/-- Position p of row t of the standby Coupling Table written with e. -/
def withPosition (u : State) (t : Slot) (p : Fin 8) (e : Option Entry) : State :=
  let b := standbyBank u.banks
  { u with banks := setStandby u.banks { b with rows := b.rows.set t (b.rows[t].set p e) } }

/-- The shock count of frame f on the slots as a boundary leaves them (R46). -/
def shocksOf (f : Frame) (u : SlotUnit) (threshold : Word) : Nat :=
  (List.finRange 64).countP fun t =>
    match boundaryEntry f u.map u.records[t] t with
    | some v => decide (threshold.toNat ≤ v.toInt.natAbs)
    | none => false

/-- The rows of the table that are a command cell of request r, RESET apart. -/
def commandRows (code : Byte) (r : Request) : List Instr :=
  [.status r, .claim r, .release r, .select r, .dataStandbyCtReplace r, .dataStandbyCtAdd r, .dataStandbyKernelReplace r,
    .dataStandbyKernelAdd r, .dataStandbyTemplate r, .dataSlotmap r, .dataTargets r, .dataMutes r] ++
  [.dataLimits r, .dataAlertmap r, .read r, .readCounters r, .readCapture r, .commit r, .resync r, .clearStandby r, .mode r,
    .armCapture r, .persist r, .ackAlert r, .unknownCommand code r]

/-- The row of a command cell that carries a code; the context decides which table a DATA or a READ is on (log 5), and the payload
which RESET it is (R159). -/
def rowOf (code : Byte) (r : Request) : Instr :=
  match code.toNat with
  | 1 => .status r | 2 => .claim r | 3 => .release r | 4 => .select r | 5 => .dataSlotmap r | 6 => .read r | 7 => .commit r
  | 8 => .resync r | 9 => .clearStandby r | 10 => .mode r | 11 => .armCapture r | 12 => .persist r | 13 => .ackAlert r
  | 14 => if asksFull r then .resetFull r else .resetWarm r
  | _ => .unknownCommand code r

end Sys2Proof.Machine
end

