-- ==== Sys2Proof/Certificates/Slice0/Obligations.lean ====
section
/-! DEFINITION. The statements about the part, for the provers. Their words (Taken, Answered, Matching, Selects and the rest) are
those of Safety.lean. -/

open Sys2Proof Sys2Proof.Machine

/-! The step -/

/-- Whatever command stands at the front of the queue, a step is that command on the state with the rest of the queue. -/
def Obligations.StepRunsTheFrontCommand : Prop :=
  ∀ (c : Instr) (rest : List Instr) (s : State),
    step { s with pending := c :: rest } = exec c { s with pending := rest }

/-- With nothing waiting, a step leaves an idle part as it is; a running pass advances its work by one piece, which
DeratedValueOfATarget spells out, and nothing else changes (log 14). -/
def Obligations.StepWithNothingWaiting : Prop :=
  ∀ s : State, s.pending = [] →
    (s.coupling.pass = none → step s = .next s) ∧
    (∀ p, s.coupling.pass = some p →
      step s = .next { s with coupling :=
        { s.coupling with pass := some { p with work := advanceWork s p.frame p.next p.work } } })

/-- Every command completes in every state, and leaves the queue of waiting commands alone. -/
def Obligations.EveryCommandCompletes : Prop :=
  ∀ (c : Instr) (s : State), ∃ t, exec c s = .next t ∧ t.pending = s.pending

/-! Chapter 1: the loop -/

/-- R8: the outbound events in SEARCHING, the acquisition of lock, and the return port meanwhile. -/
def Obligations.SearchingAcquiresLock : Prop :=
  ∀ s : State, Quiet s → s.ports.condition = .active → s.ports.lock = .searching →
    (∀ (f : Frame) (m : Composition), goodCheck f = false →
      exec (.outboundFrame f .current m) s =
        .next { s with
          ports := { s.ports with candidate := none, outbOut := some f }
          counters := counted 0 1 s.counters }) ∧
    (∀ (f : Frame) (m : Composition), goodCheck f = true → (∀ p, s.ports.candidate = some p → f.number ≠ p + 1) →
      exec (.outboundFrame f .current m) s =
        .next { s with ports := { s.ports with candidate := some f.number, outbOut := some f } }) ∧
    (∀ (f : Frame) (m : Composition) (p : Word), goodCheck f = true → s.ports.candidate = some p → f.number = p + 1 →
      exec (.outboundFrame f .current m) s =
        .next { s with
          ports :=
            { s.ports with
              lock := .locked, candidate := none, badRun := 0, lastGood := some { number := f.number, used := f.used },
              frameMatch := .awaiting, outbOut := some f }
          alerts := withPending 2 s.alerts }) ∧
    exec .lineIdle s = .next { s with ports := { s.ports with candidate := none } } ∧
    (∀ (f : Frame) (b : ReturnPassage),
      exec (.returnFrame f b) s = .next { s with ports := { s.ports with retOut := some f } })

/-- What loss of lock leaves of a state (R9). -/
def Sys2Proof.Machine.lostLock (s : State) : State :=
  { s with
    ports :=
      { s.ports with
        lock := .searching, candidate := none, badRun := 0, lastGood := none, frameMatch := .noFrame }
    intake := flushedIntake s.intake
    pool := []
    coupling := { s.coupling with pass := none }
    capture := Capture.initial }

/-- R9: LINE_IDLE and LOCK_LOSS on the loop lose lock, with the reactions of the four blocks. A passage in composition goes out
first, as it is, and a RESET taken in it begins (log 13). -/
def Obligations.LockIsLost : Prop :=
  ∀ s : State, OnLoop s →
    (s.ports.composing = none → exec .lineIdle s = .next (lostLock s) ∧ exec .lockLoss s = .next (lostLock s)) ∧
    (∀ c, s.ports.composing = some c →
      let cut : State := { s with ports := { s.ports with composing := none, outbOut := some (regenerate c.frame) } }
      exec .lineIdle s = .next (lostLock (beginReset c.reset cut)) ∧ exec .lockLoss s = .next (lostLock (beginReset c.reset cut)))

/-- R13: a bad outbound frame in either lock state; in LOCKED the eighth in a row loses lock. -/
def Obligations.BadOutboundFrames : Prop :=
  ∀ (f : Frame) (m : Composition) (s : State), Quiet s → s.ports.condition = .active → goodCheck f = false →
    let seen : State := { s with ports := { s.ports with outbOut := some f }, counters := counted 0 1 s.counters }
    (s.ports.lock = .searching →
      exec (.outboundFrame f .current m) s = .next { seen with ports := { seen.ports with candidate := none } }) ∧
    (s.ports.lock = .locked → s.ports.badRun + 1 < 8 →
      exec (.outboundFrame f .current m) s = .next { seen with ports := { seen.ports with badRun := s.ports.badRun + 1 } }) ∧
    (s.ports.lock = .locked → 8 ≤ s.ports.badRun + 1 → exec (.outboundFrame f .current m) s = .next (lostLock seen))

/-- R7: in TRANSPARENT, and for a passage already in progress at the last change of port condition or lock, a frame is forwarded on
either port and nothing else happens; without supply nothing happens at all (log 3, log 11). A passage cut by the start of a
TRANSPARENT span (log 18): an outbound one takes no command cell from the cut on, so that it leaves the state that the frame with
those cells EMPTY leaves and they go out as received, and it is the uncut one when none of them is addressed to the part; a matching
return keeps the responses, and the alert report, written before the cut, and makes no boundary; any other return is forwarded and
nothing else happens. -/
def Obligations.TransparentForwarding : Prop :=
  (∀ (f : Frame) (b : PassageStart) (p : ReturnPassage) (m : Composition) (s : State),
     (Quiet s → s.ports.condition = .transparent ∨ b = .earlier →
       exec (.outboundFrame f b m) s = .next { s with ports := { s.ports with outbOut := some f } }) ∧
     (s.startUp.phase ≠ .unpowered → s.ports.condition = .transparent ∨ p = .earlier →
       exec (.returnFrame f p) s = .next { s with ports := { s.ports with retOut := some f } }) ∧
     (s.startUp.phase = .unpowered → exec (.outboundFrame f b m) s = .next s ∧ exec (.returnFrame f p) s = .next s)) ∧
  ((∀ (f : Frame) (k : Fin 5) (s : State), Quiet s → OnLoop s → goodCheck f = true →
     (let without := regenerate { f with commands := Vector.ofFn fun i : Fin 4 => if i.val < k.val then f.commands[i] else emptyCell }
      ∃ u whole, exec (.outboundFrame without .current .atOnce) s = .next u ∧ u.ports.outbOut = some whole ∧
        let out := regenerate { whole with
          commands := Vector.ofFn fun i : Fin 4 => if i.val < k.val then whole.commands[i] else f.commands[i] }
        exec (.outboundFrame f .current (.cut k)) s = .next { u with ports := { u.ports with outbOut := some out } }) ∧
     ((∀ i : Fin 4, k.val ≤ i.val → addressedTo s.startUp.node f.commands[i] = false) →
       exec (.outboundFrame f .current (.cut k)) s = exec (.outboundFrame f .current .atOnce) s)) ∧
   (∀ (f : Frame) (k : Fin 5) (report : Bool) (s : State), Matching f s → PortsLawful s → QueueLawful s →
     ∃ t out u whole, exec (.returnFrame f (.cut k report)) s = .next t ∧ exec (.returnFrame f .current) s = .next u ∧
       u.ports.retOut = some whole ∧
       (let empties := (f.responses.toList.take k.val).countP fun c => cellKind c == .empty
        t = { s with
          ports := { s.ports with frameMatch := .spent, retOut := some out }
          mgmt := { s.mgmt with queue := s.mgmt.queue.drop empties } }) ∧
       out = regenerate { whole with
         responses := Vector.ofFn fun i : Fin 4 => if i.val < k.val then whole.responses[i] else f.responses[i]
         alert := if report then whole.alert else f.alert }) ∧
   (∀ (f : Frame) (k : Fin 5) (report : Bool) (s : State), s.startUp.phase ≠ .unpowered → OnLoop s → ¬ Matching f s →
     exec (.returnFrame f (.cut k report)) s = .next { s with ports := { s.ports with retOut := some f } }))

/-- R11: the gap test of a good outbound frame in LOCKED, seen before the first of its cells is composed. A frame composed at once
is the frame composed cell by cell: finishing what the by-cell form left is the at-once form, and a cell that arrives, slot cell or
command cell, leaves what finishing comes to as it was, so that the last one comes to it (log 2). An outbound frame that finds a
passage in composition acts on the part with that passage finished (log 13). -/
def Obligations.GoodOutboundFramesBegin : Prop :=
  (∀ (f : Frame) (p : LastGood) (s : State), Quiet s → OnLoop s → goodCheck f = true → s.ports.lastGood = some p →
     let awaited := if s.ports.frameMatch = .awaiting then 1 else 0
     let gap := (f.number - p.number - 1).toNat
     exec (.outboundFrame f .current .byCell) s =
       .next { s with
         ports :=
           { s.ports with
             frameMatch := if s.ports.frameMatch = .awaiting then .spent else s.ports.frameMatch
             composing := some { frame := f, next := 0, reset := none } }
         intake :=
           if 32 ≤ gap then
             { history := Vector.replicate 64 History.holes
               head := if s.ports.frameMatch = .awaiting then some p.number else s.intake.head }
           else if awaited + gap = 0 then s.intake
           else withHoles (awaited + gap) (f.number - 1) s.intake
         counters :=
           counted 7 (attachedSlots s * (awaited + if 32 ≤ gap then 0 else gap)) (counted 2 awaited s.counters) }) ∧
  ((∀ (f : Frame) (s t : State), Quiet s → OnLoop s → goodCheck f = true →
     exec (.outboundFrame f .current .byCell) s = .next t →
     exec (.outboundFrame f .current .atOnce) s = .next (finishPassage t)) ∧
   (∀ (c : Composing) (s t : State), PortsLawful s → s.ports.composing = some c →
     exec .outboundCellArrival s = .next t →
     finishPassage t = finishPassage s ∧ (t.ports.composing = none → t = finishPassage s)) ∧
   (∀ (f : Frame) (b : PassageStart) (m : Composition) (c : Composing) (s : State), s.startUp.phase ≠ .unpowered →
     s.ports.composing = some c → exec (.outboundFrame f b m) s = exec (.outboundFrame f b m) (finishPassage s)))

/-- R10, R2 and R82 on a whole frame: a good outbound frame in LOCKED goes out with the selected pair in each used, mapped cell,
the other cells and fields as received, and a good check. -/
def Obligations.OutboundCellsCarryTheSelection : Prop :=
  ∀ (f : Frame) (s : State), Quiet s → OnLoop s → goodCheck f = true → MapInjective s.slots.map →
    ∃ t out, exec (.outboundFrame f .current .atOnce) s = .next t ∧ t.ports.outbOut = some out ∧
      out.number = f.number ∧ out.used = f.used ∧ out.alert = f.alert ∧ out.responses = f.responses ∧
      out.check = crc32 (checkedBytes out) ∧
      (∀ pos : Fin 64, f.used.toNat ≤ pos.val → out.cells[pos] = f.cells[pos]) ∧
      (∀ pos : Fin 64, (∀ u : Slot, s.slots.map[u] ≠ some pos) → out.cells[pos] = f.cells[pos]) ∧
      (∀ (pos : Fin 64) (u : Slot), pos.val < f.used.toNat → s.slots.map[u] = some pos →
        ∀ (c : Word) (k : CellStatus) (miss : Bool), Selects s f.number u c k miss →
          out.cells[pos] = { f.cells[pos] with correction := c, status := statusCode k })

/-- R82 and R85 at one cell: the next used slot cell of a passage in composition, the last one included, is written by the
selection, and a deadline miss is counted and raised. R12, R10, R159 at one command cell, which arrives behind them (log 2): it
passes unchanged behind a RESET or when it is not addressed to the part, is declined with the queue full, reserves an entry as a
RESET, and does what its row does otherwise. The fourth ends the passage: the frame goes out with a good check, its number and
used-cell count become the last good frame, awaited, and a RESET taken in it begins. -/
def Obligations.CellsAreComposedAndThePassageEnds : Prop :=
  (∀ (f : Frame) (pos : Fin 64) (k : Option ResetKind) (s : State),
     s.ports.composing = some { frame := f, next := pos.val, reset := k } → pos.val < f.used.toNat → MapInjective s.slots.map →
     ((∀ u : Slot, s.slots.map[u] ≠ some pos) →
       exec .outboundCellArrival s =
         .next { s with ports := { s.ports with composing := some { frame := f, next := pos.val + 1, reset := k } } }) ∧
     (∀ (u : Slot) (c : Word) (x : CellStatus) (miss : Bool), s.slots.map[u] = some pos → Selects s f.number u c x miss →
       let written : SlotCell := { f.cells[pos] with correction := c, status := statusCode x }
       exec .outboundCellArrival s =
         .next { s with
           ports := { s.ports with
             composing := some { frame := { f with cells := f.cells.set pos written }, next := pos.val + 1, reset := k } }
           alerts := if miss then withPending 10 s.alerts else s.alerts
           counters := if miss then counted 3 1 s.counters else s.counters })) ∧
  (∀ (f : Frame) (j : Fin 4) (k : Option ResetKind) (s : State), OnLoop s →
     s.ports.composing = some { frame := f, next := f.used.toNat + j.val, reset := k } →
     let c := f.commands[j]
     let r := cellRequest c
     let addressed := addressedTo s.startUp.node c = true
     let full := 8 ≤ s.mgmt.queue.length
     let left := if cellDestination c = 15 then c else emptyCell
     let goesOn := fun (x : MgmtCell) (after : Option ResetKind) (v : State) =>
       let g := { f with commands := f.commands.set j x }
       exec .outboundCellArrival s = .next
         (if j.val < 3 then
           { v with ports := { v.ports with composing := some { frame := g, next := f.used.toNat + j.val + 1, reset := after } } }
         else
           beginReset after { v with ports := { v.ports with
             lastGood := some { number := f.number, used := f.used }, frameMatch := .awaiting, badRun := 0, composing := none
             outbOut := some (regenerate g) } })
     (k.isSome = true ∨ ¬ addressed → goesOn c k s) ∧
     (k = none → addressed → full → goesOn { c with head := c.head ||| 3 } none { s with counters := counted 6 1 s.counters }) ∧
     (k = none → addressed → ¬ full → c.code = 14 →
       let u := renewLeases r s
       goesOn left (some (if r.payload[0] = 1 then .full else .warm))
         { u with mgmt := { u.mgmt with queue := u.mgmt.queue ++ [.reserved] } }) ∧
     (k = none → addressed → ¬ full → c.code ≠ 14 → ∃ u, exec (rowOf c.code r) s = .next u ∧ goesOn left none u))

/-- R12, R148, R159: the last command cell addressed to the part in a frame, behind any others. The frame does what the frame without
that cell does, and then what the command's own row does in the state so reached, so that the cells are decided in cell order, each
against the queue and the state that those before it have left; the cell goes out EMPTY when taken by node number, unchanged when
taken by 15, DECLINED when the Response Queue is then full. When an earlier cell was a RESET taken (the state so reached is
SEARCHING), the cell goes out unchanged and does nothing. A DATA or READ cell has the row of any table: the rows agree in every state
(DataIsRefusedInOrder, log 5). -/
def Obligations.CommandCellsRunTheirRows : Prop :=
  ∀ (f : Frame) (k : Fin 4) (s : State), Quiet s → OnLoop s → goodCheck f = true →
    addressedTo s.startUp.node f.commands[k] = true →
    (∀ j : Fin 4, k < j → addressedTo s.startUp.node f.commands[j] = false) →
    let c := f.commands[k]
    let without := regenerate { f with commands := f.commands.set k emptyCell }
    ∃ t out, exec (.outboundFrame without .current .atOnce) s = .next t ∧ t.ports.outbOut = some out ∧
      let sent := fun (left : MgmtCell) (u : State) =>
        exec (.outboundFrame f .current .atOnce) s =
          .next { u with ports := { u.ports with outbOut := some (regenerate { out with commands := out.commands.set k left }) } }
      (t.ports.lock = .locked →
        ∃ u, exec (rowOf c.code (cellRequest c)) t = .next u ∧
          sent (if Config.queueCapacity ≤ t.mgmt.queue.length then { c with head := c.head ||| 3 }
            else if cellDestination c = 15 then c else emptyCell) u) ∧
      (t.ports.lock = .searching → sent c t) ∧
      ((∀ j : Fin 4, j < k → addressedTo s.startUp.node f.commands[j] = true → f.commands[j].code ≠ 14) → t.ports.lock = .locked)

/-- R12: any command row that finds the Response Queue full is declined, whatever it is: CMD_DECLINED is counted and nothing
else changes, also while a passage is in composition (log 21). Off the loop a command cell has no effect (log 5). -/
def Obligations.FullQueueDeclines : Prop :=
  ∀ (i : Instr) (code : Byte) (r : Request) (s : State),
    i ∈ .resetFull r :: .resetWarm r :: commandRows code r →
    (OnLoop s → Config.queueCapacity ≤ s.mgmt.queue.length →
      exec i s = .next { s with counters := counted 6 1 s.counters }) ∧
    (¬ OnLoop s → exec i s = .next s)

/-- R17: a bad or a mismatched return in LOCKED is forwarded unchanged and counted, and gives one hole for an awaited frame. -/
def Obligations.FailedReturns : Prop :=
  ∀ (f : Frame) (s : State), s.startUp.phase ≠ .unpowered → OnLoop s → ¬ Matching f s →
    let item : Fin 10 := if goodCheck f then 2 else 1
    (∀ p, s.ports.frameMatch = .awaiting → s.ports.lastGood = some p →
      exec (.returnFrame f .current) s =
        .next { s with
          ports := { s.ports with frameMatch := .spent, retOut := some f }
          intake := withHoles 1 p.number s.intake
          counters := counted 7 (attachedSlots s) (counted item 1 s.counters) }) ∧
    (s.ports.frameMatch ≠ .awaiting →
      exec (.returnFrame f .current) s =
        .next { s with ports := { s.ports with retOut := some f }, counters := counted item 1 s.counters })

/-- R15: a matching return is answered SPENT, and its EMPTY response cells take the responses at the head of the queue in cell
order; every other cell and field but the alert field and the check stays as received. R166: the alert field is written with
the highest-priority reportable source unless a source of the same or higher priority already occupies it. -/
def Obligations.MatchingReturnsAnswerAndReport : Prop :=
  (∀ (f : Frame) (s : State), Matching f s → PortsLawful s → QueueLawful s →
     ∃ t out, exec (.returnFrame f .current) s = .next t ∧
       t.ports = { s.ports with frameMatch := .spent, retOut := some out } ∧
       out.number = f.number ∧ out.used = f.used ∧ out.cells = f.cells ∧ out.commands = f.commands ∧
       out.check = crc32 (checkedBytes out) ∧
       (let empties := fun n : Nat => (f.responses.toList.take n).countP fun c => cellKind c == .empty
        t.mgmt.queue = s.mgmt.queue.drop (empties 4) ∧ t.mgmt.contexts = s.mgmt.contexts ∧
        ∀ j : Fin 4, out.responses[j] =
          match cellKind f.responses[j], s.mgmt.queue[empties j.val]? with
          | .empty, some (.ready c) => c
          | _, _ => f.responses[j])) ∧
  (∀ (f : Frame) (s : State), Matching f s →
     ∃ t out, exec (.returnFrame f .current) s = .next t ∧ t.ports.retOut = some out ∧
       let reports := fun n : Fin 16 => s.alerts.pending.getLsbD n = true ∧ s.alerts.map[n].masked = false ∧
         (s.alerts.map[n].route = .inBand ∨ s.alerts.map[n].route = .both)
       ((∀ n, ¬ reports n) → out.alert = f.alert) ∧
       (∀ n : Fin 16, reports n → (∀ k, k < n → ¬ reports k) →
         (f.alert.getLsbD 15 = true → (f.alert.extractLsb' 8 4).toNat ≤ n.val → out.alert = f.alert) ∧
         (f.alert.getLsbD 15 = false ∨ n.val < (f.alert.extractLsb' 8 4).toNat →
           out.alert = (8 : BitVec 4) ++ BitVec.ofNat 4 n.val ++ (0 : BitVec 4) ++ s.startUp.node)))

/-! The frame boundary, block by block -/

/-- R16, R163: what a matching return leaves alone in every block, and the only alert sources a frame boundary raises:
SHOCK_ENTERED, COMMIT_REJECTED, COMMIT_DONE, PERSIST_FAILED, LOCK_EXPIRED, PULSE_DROPPED, SLED_CHANGED, CAPTURE_DONE and
SHOCK_CLEARED. -/
def Obligations.BoundaryKeepsTheRest : Prop :=
  ∀ (f : Frame) (s : State), Matching f s →
    ∃ t, exec (.returnFrame f .current) s = .next t ∧ t.pending = s.pending ∧ t.startUp = s.startUp ∧
      t.limit.params = s.limit.params ∧ t.limit.muteSet = s.limit.muteSet ∧ t.alerts.map = s.alerts.map ∧
      t.profile.image = s.profile.image ∧ t.profile.crc = s.profile.crc ∧ t.profile.found = s.profile.found ∧
      (∀ c : Fin 10, c ∈ ([0, 1, 2, 3, 6, 8] : List (Fin 10)) → t.counters[c] = s.counters[c]) ∧
      (∀ n : Fin 16, s.alerts.pending.getLsbD n = true → t.alerts.pending.getLsbD n = true) ∧
      (∀ n : Fin 16, t.alerts.pending.getLsbD n = true →
        s.alerts.pending.getLsbD n = true ∨ n ∈ ([1, 4, 5, 6, 8, 11, 12, 13, 15] : List (Fin 16)))


/-- R28: every slot's runtime record after the boundary, and SLED_CHANGED. -/
def Obligations.SlotsAreEvaluated : Prop :=
  ∀ (f : Frame) (s : State), Matching f s →
    ∃ t, exec (.returnFrame f .current) s = .next t ∧ t.slots.map = s.slots.map ∧ t.slots.targets = s.slots.targets ∧
      (∀ u : Slot,
        let before := s.slots.records[u]
        let after := t.slots.records[u]
        (before.state = .detached → ¬ Present f s.slots.map u → after = before) ∧
        (before.state = .detached → Present f s.slots.map u → after = { state := .settling, settle := 256 }) ∧
        (before.state = .settling → ¬ Present f s.slots.map u → after = { state := .detached, settle := 0 }) ∧
        (before.state = .settling → 1 < before.settle → Present f s.slots.map u →
          after = { state := .settling, settle := before.settle - 1 }) ∧
        (before.state = .settling → before.settle = 1 → Present f s.slots.map u → after = { state := .attached, settle := 0 }) ∧
        (before.state = .attached → ¬ Present f s.slots.map u → after = { state := .detached, settle := 0 }) ∧
        (before.state = .attached → Present f s.slots.map u → after = before)) ∧
      (t.alerts.pending.getLsbD 12 = true ↔
        s.alerts.pending.getLsbD 12 = true ∨ ∃ u : Slot, t.slots.records[u].state ≠ s.slots.records[u].state)

/-- R38, R39, R44, R48: the entry of every slot for the frame at age 0 with every older one moved by one, the flushes that cover it,
the head, and HOLES. -/
def Obligations.EntriesAreGiven : Prop :=
  ∀ (f : Frame) (s : State), Matching f s →
    ∃ t, exec (.returnFrame f .current) s = .next t ∧ t.intake.head = some f.number ∧
      t.counters[7] = countUp s.counters[7] ((List.finRange 64).countP fun u =>
        t.slots.records[u].state == .attached && (boundaryEntry f t.slots.map t.slots.records[u] u).isNone) ∧
      ∀ u : Slot,
        let entry := boundaryEntry f t.slots.map t.slots.records[u] u
        (∀ c : Fin 64, t.slots.records[u].state ≠ .detached → t.slots.map[u] = some c → c.val < f.used.toNat →
          isPresent f.cells[c] = true → isSensorValid f.cells[c] = true → entry = some f.cells[c].sample) ∧
        (t.slots.records[u].state = .detached → entry = none) ∧ (t.slots.map[u] = none → entry = none) ∧
        (∀ c : Fin 64, t.slots.map[u] = some c → f.used.toNat ≤ c.val → entry = none) ∧
        (∀ c : Fin 64, t.slots.map[u] = some c → isPresent f.cells[c] = false ∨ isSensorValid f.cells[c] = false → entry = none) ∧
        (s.limit.mode = .shockHold ∧ t.limit.mode ≠ .shockHold → t.intake.history[u] = History.holes) ∧
        (s.slots.records[u].state ≠ .detached ∧ t.slots.records[u].state = .detached → t.intake.history[u] = History.holes) ∧
        (¬ (s.limit.mode = .shockHold ∧ t.limit.mode ≠ .shockHold) →
          ¬ (s.slots.records[u].state ≠ .detached ∧ t.slots.records[u].state = .detached) →
          t.intake.history[u] = Vector.ofFn fun a : Fin 32 => if a.val = 0 then entry else s.intake.history[u][a.val - 1])

/-- R117 with the actions of R124 to R126: the resulting mode of a boundary whose shock count is n. SHOCK_ENTERED (1) is raised by a
shock entry and SHOCK_CLEARED (15) by a shock exit, and by nothing else there. -/
def Obligations.ResultingModeIsFormed : Prop :=
  ∀ (f : Frame) (s : State), Matching f s →
    ∃ t, exec (.returnFrame f .current) s = .next t ∧ t.limit.params = s.limit.params ∧
      (t.alerts.pending.getLsbD 1 = true ↔
        s.alerts.pending.getLsbD 1 = true ∨ s.limit.mode ≠ .shockHold ∧ t.limit.mode = .shockHold) ∧
      (t.alerts.pending.getLsbD 15 = true ↔
        s.alerts.pending.getLsbD 15 = true ∨ s.limit.mode = .shockHold ∧ t.limit.mode ≠ .shockHold) ∧
      let n := shocksOf f t.slots s.limit.params.shockThreshold
      let quorum := s.limit.params.shockQuorum.toNat
      let kept := t.limit.saved = s.limit.saved ∧ t.limit.request = s.limit.request ∧ t.limit.shockSeen = s.limit.shockSeen ∧
        t.counters[9] = s.counters[9]
      (∀ m : ChosenMode, s.limit.mode = m.operating → n < quorum →
        t.limit.mode = (s.limit.request.getD m).operating ∧ t.limit.request = none ∧ t.limit.saved = s.limit.saved ∧
        t.limit.holdOff = s.limit.holdOff ∧ t.limit.shockSeen = s.limit.shockSeen ∧ t.counters[9] = s.counters[9]) ∧
      (∀ m : ChosenMode, s.limit.mode = m.operating → quorum ≤ n →
        t.limit.mode = .shockHold ∧ t.limit.request = none ∧ t.limit.saved = some (s.limit.request.getD m) ∧
        t.limit.holdOff = s.limit.params.shockHoldOff.toNat ∧ t.limit.shockSeen = true ∧
        t.counters[9] = countUp s.counters[9] 1) ∧
      (s.limit.mode = .shockHold → quorum ≤ n →
        t.limit.mode = .shockHold ∧ t.limit.holdOff = s.limit.params.shockHoldOff.toNat ∧ kept) ∧
      (s.limit.mode = .shockHold → n < quorum → 1 < s.limit.holdOff →
        t.limit.mode = .shockHold ∧ t.limit.holdOff = s.limit.holdOff - 1 ∧ kept) ∧
      (∀ m : ChosenMode, s.limit.mode = .shockHold → n < quorum → s.limit.holdOff = 1 → s.limit.saved = some m →
        t.limit.mode = m.operating ∧ t.limit.holdOff = 0 ∧ kept)

/-- R73, R74: fresh marks are cleared, a running pass is abandoned as an overrun with every record kept, and in RUN the pass of
the frame begins. -/
def Obligations.PassStartsAtTheBoundary : Prop :=
  ∀ (f : Frame) (s : State), Matching f s →
    ∃ t, exec (.returnFrame f .current) s = .next t ∧
      t.coupling.pass =
        (if t.limit.mode = .run then
          some { frame := f.number, next := 0, saturationSeen := false, work := { position := 0, sum := 0, derated := none } }
        else none) ∧
      (∀ u : Slot, t.coupling.targets[u] = { s.coupling.targets[u] with fresh := false }) ∧
      t.counters[4] = countUp s.counters[4] (if s.coupling.pass.isSome then 1 else 0) ∧
      t.counters[8] = s.counters[8] ∧ t.limit.muteSet = s.limit.muteSet ∧
      (s.banks.engine ≠ .swapPending → t.limit.records = s.limit.records)

/-- R99, R100, R109, R110: in OFF and SHOCK_HOLD the pool is empty; in RUN and FREEZE it is what the notices of the frame, in
slot order, make of the instances that are not expired and whose slot is not detached. R104: only a drop raises PULSE_DROPPED (11). -/
def Obligations.PoolAtTheBoundary : Prop :=
  ∀ (f : Frame) (s : State), Matching f s →
    ∃ t, exec (.returnFrame f .current) s = .next t ∧
      (t.limit.mode = .off ∨ t.limit.mode = .shockHold →
        t.pool = [] ∧ t.counters[5] = s.counters[5] ∧ t.alerts.pending.getLsbD 11 = s.alerts.pending.getLsbD 11) ∧
      (t.limit.mode = .run ∨ t.limit.mode = .freeze →
        ∃ notices : List Notice,
          (∀ n, n ∈ notices ↔
            ∃ c : Fin 64, t.slots.records[n.slot].state ≠ .detached ∧ t.slots.map[n.slot] = some c ∧ c.val < f.used.toNat ∧
              isPresent f.cells[c] = true ∧ hasNotice f.cells[c] = true ∧ n.lengthClass = noticeClass f.cells[c] ∧
              n.direction = noticeDirection f.cells[c] ∧ n.lead = noticeLead f.cells[c]) ∧
          notices.Pairwise (fun a b => a.slot < b.slot) ∧
          let stay := s.pool.filter fun q =>
            decide (¬ (s.slots.records[q.source].state ≠ .detached ∧ t.slots.records[q.source].state = .detached))
          let after := notices.foldl (takeNotice f.number) { pool := retirePulses f.number stay, drops := 0, reports := [] }
          t.pool = after.pool ∧ t.counters[5] = countUp s.counters[5] after.drops ∧
          (t.alerts.pending.getLsbD 11 = true ↔ s.alerts.pending.getLsbD 11 = true ∨ 0 < after.drops))

/-- R101 to R104: one notice of frame m against the pool. -/
def Obligations.NoticesAreDecided : Prop :=
  ∀ (m : Word) (n : Notice) (a : NoticeStep), (a.pool.map (·.source)).Nodup →
    let onset := m + n.lead.setWidth 16
    let j : Int := 1 - n.lead.toNat
    let new : Pulse :=
      { source := n.slot, lengthClass := n.lengthClass, direction := n.direction, onset := onset, position := j,
        play := if 0 ≤ j then .playing else .pending }
    let b := takeNotice m a n
    (∀ q, q ∈ a.pool → q.source = n.slot → q.onset = onset →
      b.pool = a.pool ∧ b.drops = a.drops ∧ b.reports = a.reports ++ [{ slot := n.slot, isRepeat := true }]) ∧
    (∀ q, q ∈ a.pool → q.source = n.slot → q.onset ≠ onset →
      b.pool = insertPulse new (a.pool.filter fun q => q.source != n.slot) ∧ b.drops = a.drops ∧
      b.reports = a.reports ++ [{ slot := n.slot, isRepeat := false }]) ∧
    ((∀ q, q ∈ a.pool → q.source ≠ n.slot) → a.pool.length < 24 →
      b.pool = insertPulse new a.pool ∧ b.drops = a.drops ∧ b.reports = a.reports ++ [{ slot := n.slot, isRepeat := false }]) ∧
    ((∀ q, q ∈ a.pool → q.source ≠ n.slot) → 24 ≤ a.pool.length →
      b.pool = a.pool ∧ b.drops = a.drops + 1 ∧ b.reports = a.reports ++ [{ slot := n.slot, isRepeat := false }])

/-- R98: an instance inserted into a pool in order takes its place in the order, and every other instance stays. R99: the
instances that retirement leaves of a pool evaluated for one frame stay in order. R97: the play index and play state of an onset for
frame m. -/
def Obligations.PulsesKeepOrderAndIndex : Prop :=
  (let before := fun a b : Pulse => b.position < a.position ∨ (a.position = b.position ∧ a.source < b.source)
   (∀ (p : Pulse) (pool : List Pulse), pool.Pairwise before → (∀ q, q ∈ pool → q.source ≠ p.source) →
     (insertPulse p pool).Pairwise before ∧ (insertPulse p pool).Perm (p :: pool)) ∧
   (∀ (m : Word) (pool : List Pulse), pool.Pairwise before → EvaluatedTogether pool → (retirePulses m pool).Pairwise before ∧
     ∀ q, q ∈ retirePulses m pool ↔ ∃ p, p ∈ pool ∧ evaluatePulse m p = some q)) ∧
  (∀ (q : Pulse) (m : Word),
     let d := (m + 1 - q.onset).toNat
     (d ≤ 31 → evaluatePulse m q = some { q with position := d, play := .playing }) ∧
     (65522 ≤ d → evaluatePulse m q = some { q with position := (d : Int) - 65536, play := .pending }) ∧
     (32 ≤ d → d ≤ 65521 → evaluatePulse m q = none))

/-- R132, R135, R138 to R143: the Bank Engine at a boundary, in each of its states. COMMIT_REJECTED (4) is raised by a row that fails
and COMMIT_DONE (5) by the end of the copy, and by nothing else there. -/
def Obligations.BankEngineAtTheBoundary : Prop :=
  ∀ (f : Frame) (s : State), Matching f s →
    ∃ t, exec (.returnFrame f .current) s = .next t ∧
      let fault := fun u : Slot => rowFault s.limit.params.rowStability (standbyBank s.banks) u
      let r := s.banks.progress
      (t.alerts.pending.getLsbD 4 = true ↔ s.alerts.pending.getLsbD 4 = true ∨
        s.banks.engine = .validating ∧ ∃ u : Slot, r ≤ u.val ∧ u.val < r + 4 ∧ fault u ≠ none) ∧
      (t.alerts.pending.getLsbD 5 = true ↔ s.alerts.pending.getLsbD 5 = true ∨ s.banks.engine = .resync ∧ 200 ≤ r + 8) ∧
      (s.banks.engine = .idle → t.banks = s.banks) ∧
      (s.banks.engine = .validating → (∀ u : Slot, r ≤ u.val → u.val < r + 4 → fault u = none) →
        t.banks =
          { s.banks with
            engine := if r + 4 < 64 then .validating else .swapPending
            progress := if r + 4 < 64 then r + 4 else 0 }) ∧
      (∀ (u : Slot) (reason : RejectReason), s.banks.engine = .validating → r ≤ u.val → u.val < r + 4 → fault u = some reason →
        (∀ v : Slot, r ≤ v.val → v < u → fault v = none) →
        t.banks = { s.banks with engine := .idle, progress := 0, operation := none, rejection := some { row := u, reason := reason } }) ∧
      (s.banks.engine = .swapPending →
        t.banks =
          { s.banks with
            liveId := otherBank s.banks.liveId, generation := s.banks.generation + 1, engine := .resync, progress := 0 } ∧
        ∀ u : Slot, t.limit.records[u] =
          if s.limit.records[u].level = .muted then s.limit.records[u] else { level := .normal, saturation := 0, recovery := 0 }) ∧
      (s.banks.engine = .resync →
        let copied := fun i : Nat => r ≤ i ∧ i < r + 8
        let live := liveBank s.banks
        let old := standbyBank s.banks
        ∃ b : Bank,
          (∀ u : Slot, (copied u.val → b.rows[u] = live.rows[u]) ∧ (¬ copied u.val → b.rows[u] = old.rows[u])) ∧
          (∀ k : Fin 128, (copied (64 + k.val) → b.kernels[k] = live.kernels[k]) ∧
            (¬ copied (64 + k.val) → b.kernels[k] = old.kernels[k])) ∧
          (∀ j : Fin 8, (copied (192 + j.val) → b.templates[j] = live.templates[j]) ∧
            (¬ copied (192 + j.val) → b.templates[j] = old.templates[j])) ∧
          (r + 8 < 200 → t.banks = { setStandby s.banks b with progress := r + 8 }) ∧
          (200 ≤ r + 8 →
            t.banks =
              { setStandby s.banks b with standbyCondition := .clean, engine := .idle, progress := 0, operation := none }))

/-- R136, R137: the first failing check of a row. -/
def Obligations.RowChecks : Prop :=
  ∀ (limit : Word) (b : Bank) (t : Slot),
    let present := fun (p : Fin 8) (e : Entry) => b.rows[t][p] = some e
    let undefinedKernel := ∃ p e, present p e ∧ b.kernels[e.kernel].defined = false
    let badEntry := (∃ p e, present p e ∧ e.source = t) ∨
      ∃ p q e g, p ≠ q ∧ present p e ∧ present q g ∧ e.source = g.source
    let load := ∑ p : Fin 8, match b.rows[t][p] with
      | none => 0
      | some e => e.gain.toInt.natAbs * ∑ i : Fin 16, b.kernels[e.kernel].taps[i].toInt.natAbs
    (undefinedKernel → rowFault limit b t = some .undefinedKernel) ∧
    (¬ undefinedKernel → badEntry → rowFault limit b t = some .badEntry) ∧
    (¬ undefinedKernel → ¬ badEntry → limit.toNat * 2 ^ 24 < load → rowFault limit b t = some .unstable) ∧
    (¬ undefinedKernel → ¬ badEntry → load ≤ limit.toNat * 2 ^ 24 → rowFault limit b t = none)

/-- R158, R178: the leases and the PERSIST time count at a boundary. LOCK_EXPIRED (8) is raised by a lease that ends and
PERSIST_FAILED (6) by a PERSIST whose time ends, and by nothing else there. -/
def Obligations.LeasesAndTimeCountAdvance : Prop :=
  ∀ (f : Frame) (s : State), Matching f s →
    ∃ t, exec (.returnFrame f .current) s = .next t ∧
      (∀ d : Domain, lockOf s.mgmt.locks d = none → lockOf t.mgmt.locks d = none) ∧
      (∀ (d : Domain) (h : Holder), lockOf s.mgmt.locks d = some h → h.lease + 1 < 32768 →
        lockOf t.mgmt.locks d = some { h with lease := h.lease + 1 }) ∧
      (∀ (d : Domain) (h : Holder), lockOf s.mgmt.locks d = some h → 32768 ≤ h.lease + 1 →
        lockOf t.mgmt.locks d = none) ∧
      (t.alerts.pending.getLsbD 8 = true ↔ s.alerts.pending.getLsbD 8 = true ∨
        ∃ (d : Domain) (h : Holder), lockOf s.mgmt.locks d = some h ∧ 32768 ≤ h.lease + 1) ∧
      (t.alerts.pending.getLsbD 6 = true ↔ s.alerts.pending.getLsbD 6 = true ∨
        ∃ p, s.profile.running = some p ∧ 20000 ≤ p.count + 1) ∧
      (s.profile.running = none → t.profile = s.profile) ∧
      (∀ p, s.profile.running = some p → p.count + 1 < 20000 →
        t.profile = { s.profile with running := some { p with count := p.count + 1 } }) ∧
      (∀ p, s.profile.running = some p → 20000 ≤ p.count + 1 →
        t.profile = { s.profile with condition := .torn, running := none })

/-- R171 to R173 and R94 at a boundary: the items in progress of an abandoned pass complete first (log 6) and come to c0; an ARMED
capture triggers on a shock entry, or on a notice of its slot that is not a repeat, keeps its newest items and fills, which is
c1; an ARMED or FILLING c1 begins the items of the frame, and records them whole at once when no pass begins. The completion of
target 63, and of no other, completes the items in progress, after its own saturation result (log 6). CAPTURE_DONE (13) is raised
when the capture becomes DONE, and by nothing else there. As a step of its own, CAPTURE_COMPLETE is the
completion that brings the remaining count to 0 (log 4). -/
def Obligations.CaptureRecordsAndCompletes : Prop :=
  (∀ (f : Frame) (s : State), Matching f s → CaptureLawful s → PoolLawful s →
     ∃ t c0 c1, exec (.returnFrame f .current) s = .next t ∧
       (s.capture.begun = none → c0 = s.capture) ∧
       (∀ b, s.capture.begun = some b → ∃ row, IsRow row b.frame (fun c => b.entries[c]) s ∧ c0 = recorded s.capture row) ∧
       (let notice := fun (slot : Slot) (lead : BitVec 4) =>
         ∃ c : Fin 64, t.slots.records[slot].state ≠ .detached ∧ t.slots.map[slot] = some c ∧ c.val < f.used.toNat ∧
           isPresent f.cells[c] = true ∧ hasNotice f.cells[c] = true ∧ lead = noticeLead f.cells[c]
        let repeated := fun (slot : Slot) (lead : BitVec 4) => (t.limit.mode = .run ∨ t.limit.mode = .freeze) ∧
          ∃ q, q ∈ s.pool ∧ q.source = slot ∧ q.onset = f.number + lead.setWidth 16
        let fires := c0.state = .armed ∧
          ((∃ slot lead, c0.trigger = .seek slot ∧ notice slot lead ∧ ¬ repeated slot lead) ∨
           (c0.trigger = .shock ∧ s.limit.mode ≠ .shockHold ∧ t.limit.mode = .shockHold))
        let kept := min c0.preTrigger c0.rows.length
        (fires → c1 = { c0 with
          state := .filling, rows := c0.rows.drop (c0.rows.length - kept), kept := kept, remaining := 256 - c0.preTrigger }) ∧
        (¬ fires → c1 = c0)) ∧
       (c1.state = .idle ∨ c1.state = .done → t.capture = c1) ∧
       (c1.state = .armed ∨ c1.state = .filling →
         let entry := fun c : Fin 4 => c1.channels[c].bind fun u => t.intake.history[u][0]
         (t.limit.mode = .run → ∃ b, b.frame = f.number ∧ (∀ c : Fin 4, b.entries[c] = entry c) ∧
           t.capture = { c1 with begun := some b }) ∧
         (t.limit.mode ≠ .run → ∃ row, IsRow row f.number entry t ∧ t.capture = recorded c1 row)) ∧
       (t.alerts.pending.getLsbD 13 = true ↔
         s.alerts.pending.getLsbD 13 = true ∨ s.capture.state ≠ .done ∧ t.capture.state = .done)) ∧
  ((∀ (p : Pass) (s : State), s.coupling.pass = some p →
     ∃ t, exec .targetCompletion s = .next t ∧
       (p.next ≠ 63 ∨ s.capture.begun = none → t.capture = s.capture) ∧
       (∀ b, p.next = 63 → s.capture.begun = some b →
         ∃ row, IsRow row b.frame (fun c => b.entries[c]) t ∧ t.capture = recorded s.capture row) ∧
       (t.alerts.pending.getLsbD 13 = true ↔
         s.alerts.pending.getLsbD 13 = true ∨ s.capture.state = .filling ∧ t.capture.state = .done)) ∧
   (∀ (b : BegunRow) (s : State), s.capture.state = .filling → s.capture.remaining = 1 → s.capture.begun = some b →
     ∃ row, IsRow row b.frame (fun c => b.entries[c]) s ∧ (recorded s.capture row).state = .done ∧
       exec .captureComplete s = .next { s with capture := recorded s.capture row, alerts := withPending 13 s.alerts }))

/-! Ends of frame-counted spans as steps of their own (log 4) -/

/-- R30, R158, R178, R126: the ends of a settle period, of a lease, of a PERSIST's time and of a shock hold, each at its last
boundary. -/
def Obligations.SpansEnd : Prop :=
  (∀ s : State, OnLoop s →
     (∀ t : Slot, s.slots.records[t] = { state := .settling, settle := 1 } →
       exec (.settleEnd t) s =
         .next { s with
           slots := { s.slots with records := s.slots.records.set t { state := .attached, settle := 0 } }
           alerts := withPending 12 s.alerts }) ∧
     (∀ (d : Domain) (h : Holder), lockOf s.mgmt.locks d = some h → h.lease + 1 = 32768 →
       exec (.lockExpiry d) s =
         .next { s with
           mgmt := { s.mgmt with locks := setLock s.mgmt.locks d none }
           alerts := withPending 8 s.alerts }) ∧
     (∀ p, s.profile.running = some p → p.count + 1 = 20000 →
       exec .persistTimeLimit s =
         .next { s with
           profile := { s.profile with condition := .torn, running := none }
           alerts := withPending 6 s.alerts })) ∧
  (∀ (m : ChosenMode) (s : State), OnLoop s → s.limit.mode = .shockHold → s.limit.holdOff = 1 → s.limit.saved = some m →
     exec .shockExit s =
       .next { s with
         limit := { s.limit with mode := m.operating, holdOff := 0 }
         intake := flushedIntake s.intake
         alerts := withPending 15 s.alerts })

/-- R140, R123: the swap. R52, R74, R94: a pass in progress is abandoned first, as at every boundary (log 4). R143: the
boundary that copies the templates ends the copy. -/
def Obligations.SwapAndCopyEnd : Prop :=
  (∀ s : State, OnLoop s → s.banks.engine = .swapPending →
     (let swapped : BankUnit :=
       { s.banks with
         liveId := otherBank s.banks.liveId, generation := s.banks.generation + 1, engine := .resync, progress := 0 }
      let levels : LimitMonitor := { s.limit with records := Vector.ofFn fun t : Fin 64 =>
        if s.limit.records[t].level = .muted then s.limit.records[t] else { level := .normal, saturation := 0, recovery := 0 } }
      (s.coupling.pass = none → exec .bankSwap s = .next { s with banks := swapped, limit := levels }) ∧
      (∀ p, s.coupling.pass = some p →
        ∃ (capture : Capture) (alerts : AlertUnit),
          exec .bankSwap s = .next { s with
            banks := swapped, limit := levels, coupling := { s.coupling with pass := none }
            counters := counted 4 1 s.counters, capture := capture, alerts := alerts } ∧
          (s.capture.begun = none → capture = s.capture) ∧
          (∀ b, s.capture.begun = some b →
            ∃ row, IsRow row b.frame (fun c => b.entries[c]) s ∧ capture = recorded s.capture row) ∧
          alerts = (if capture.state = .done ∧ s.capture.state = .filling then withPending 13 s.alerts else s.alerts))) ∧
     liveBank { s.banks with liveId := otherBank s.banks.liveId } = standbyBank s.banks ∧
     standbyBank { s.banks with liveId := otherBank s.banks.liveId } = liveBank s.banks) ∧
  (∀ s : State, OnLoop s → s.banks.engine = .resync → s.banks.progress = 192 →
     ∃ b : Bank, b.rows = (standbyBank s.banks).rows ∧ b.kernels = (standbyBank s.banks).kernels ∧
       b.templates = (liveBank s.banks).templates ∧
       exec .resyncCopyEnd s =
         .next { s with
           banks :=
             { setStandby s.banks b with standbyCondition := .clean, engine := .idle, progress := 0, operation := none }
           alerts := withPending 5 s.alerts })

/-! The pass -/

/-- R75, R80, R81: the completion of a target: its record, the next target or the end of the pass, SAT_PASSES; nothing outside the
Coupling Engine, the Limit Monitor, the alerts, the counters and the Capture Unit moves. -/
def Obligations.TargetCompletes : Prop :=
  ∀ (p : Pass) (s : State), s.coupling.pass = some p →
    let v := deratedValue s p.frame p.next p.work
    let outside := 32767 < v ∨ v < -32767
    ∃ t, exec .targetCompletion s = .next t ∧
      t.coupling.targets = s.coupling.targets.set p.next
        { last := BitVec.ofInt 16 (if 32767 < v then 32767 else if v < -32767 then -32767 else v)
          stamp := some p.frame, fresh := true } ∧
      (∀ u : Slot, p.next.val + 1 = u.val →
        t.coupling.pass =
          some { frame := p.frame, next := u, saturationSeen := p.saturationSeen || decide outside,
                 work := { position := 0, sum := 0, derated := none } } ∧
        t.capture = s.capture) ∧
      (p.next = 63 → t.coupling.pass = none) ∧
      t.counters = (if outside ∧ p.saturationSeen = false then counted 8 1 s.counters else s.counters) ∧
      t = { s with coupling := t.coupling, counters := t.counters, limit := t.limit, alerts := t.alerts, capture := t.capture }

/-- R120, R121: what the saturation result of a completion makes of the target's limit record, the Mute Set and the alerts. Only a
step down raises a source, TARGET_DERATED (9) or TARGET_MUTED (3); CAPTURE_DONE (13) is the Capture Unit's. -/
def Obligations.SaturationLadder : Prop :=
  ∀ (p : Pass) (s : State), s.coupling.pass = some p →
    let v := deratedValue s p.frame p.next p.work
    let outside := 32767 < v ∨ v < -32767
    let r := s.limit.records[p.next]
    let threshold := s.limit.params.saturationThreshold.toNat
    let period := s.limit.params.recoveryPeriod.toNat
    ∃ t, exec .targetCompletion s = .next t ∧
      (∀ u : Slot, u ≠ p.next → t.limit.records[u] = s.limit.records[u]) ∧
      t.limit = { s.limit with records := t.limit.records, muteSet := t.limit.muteSet } ∧ t.alerts.map = s.alerts.map ∧
      (let raises := fun x : Fin 16 => ∀ n : Fin 16, n ≠ 13 →
         (t.alerts.pending.getLsbD n = true ↔ s.alerts.pending.getLsbD n = true ∨ n = x)
       let raisesNothing := ∀ n : Fin 16, n ≠ 13 → t.alerts.pending.getLsbD n = s.alerts.pending.getLsbD n
       let becomes := fun x : LimitRecord => t.limit.records[p.next] = x ∧ t.limit.muteSet = s.limit.muteSet
       (r.level = .muted → becomes r ∧ raisesNothing) ∧
       (r.level ≠ .muted → outside → r.saturation + 4 < threshold →
         becomes { level := r.level, saturation := r.saturation + 4, recovery := 0 } ∧ raisesNothing) ∧
       (r.level = .normal → outside → threshold ≤ r.saturation + 4 →
         becomes { level := .level1, saturation := 0, recovery := 0 } ∧ raises 9) ∧
       (r.level = .level1 → outside → threshold ≤ r.saturation + 4 →
         becomes { level := .level2, saturation := 0, recovery := 0 } ∧ raises 9) ∧
       (r.level = .level2 → outside → threshold ≤ r.saturation + 4 →
         t.limit.records[p.next] = { level := .muted, saturation := 0, recovery := 0 } ∧
         t.limit.muteSet = s.limit.muteSet ||| (1 <<< p.next.val) ∧ raises 3) ∧
       (r.level = .normal → ¬ outside →
         becomes { level := .normal, saturation := r.saturation - 1, recovery := r.recovery } ∧ raisesNothing) ∧
       (r.level = .level1 ∨ r.level = .level2 → ¬ outside → r.recovery + 1 < period →
         becomes { level := r.level, saturation := r.saturation - 1, recovery := r.recovery + 1 } ∧ raisesNothing) ∧
       (r.level = .level1 → ¬ outside → period ≤ r.recovery + 1 →
         becomes { level := .normal, saturation := r.saturation - 1, recovery := 0 } ∧ raisesNothing) ∧
       (r.level = .level2 → ¬ outside → period ≤ r.recovery + 1 →
         becomes { level := .level1, saturation := r.saturation - 1, recovery := 0 } ∧ raisesNothing))

/-- R77 to R79: the derated value of a target whose work has not begun: the eight positions' filtered and pulse terms summed
exactly, rounded, and shifted by the limit level. R76: partial work. One piece adds the terms of the next row position to the sum, on
the state as it stands then, the piece behind the eighth rounds and shifts, and on an unchanged state the value that work comes to is
the value that the work one piece on comes to (the pieces are log 14). R78, R97: the pulse term of an entry. -/
def Obligations.DeratedValueOfATarget : Prop :=
  (∀ (s : State) (m : Word) (t : Slot),
     let live := liveBank s.banks
     let round := fun v : Int => (v + 8192) / 16384
     let stale := fun u : Slot => ∀ a : Fin 32, a.val < 4 → s.intake.history[u][a] = none
     let value := fun x : Option Word => match x with | some v => v.toInt | none => 0
     let filtered := fun e : Entry => if stale e.source then 0 else
       round (∑ i : Fin 16, live.kernels[e.kernel].taps[i].toInt *
         value (readHistory s.intake.history[e.source] s.intake.head
           (m - BitVec.ofNat 16 e.delay.val - BitVec.ofNat 16 i.val))) * e.gain.toInt
     let terms := fun p : Fin 8 => match live.rows[t][p] with
       | none => 0
       | some e => filtered e + pulseTerm s m e
     let shifted := fun v : Int => match s.limit.records[t].level with
       | .normal => v
       | .level1 => (v + 1) / 2
       | .level2 => (v + 2) / 4
       | .muted => v
     deratedValue s m t { position := 0, sum := 0, derated := none } = shifted (round (∑ p : Fin 8, terms p)) ∧
     ∀ w : TargetWork,
       (∀ p : Fin 8, w.position = p.val → advanceWork s m t w = { w with position := p.val + 1, sum := w.sum + terms p }) ∧
       (8 ≤ w.position → w.derated = none → advanceWork s m t w = { w with derated := some (shifted (round w.sum)) }) ∧
       (8 ≤ w.position → w.derated.isSome = true → advanceWork s m t w = w) ∧
       deratedValue s m t (advanceWork s m t w) = deratedValue s m t w ∧
       (∀ v, 8 ≤ w.position → w.derated = some v → deratedValue s m t w = v)) ∧
  (∀ (s : State) (m : Word) (e : Entry), (s.pool.map (·.source)).Nodup →
     (e.pulseGain = none → pulseTerm s m e = 0) ∧
     ((∀ q, q ∈ s.pool → q.source ≠ e.source) → pulseTerm s m e = 0) ∧
     (∀ (g : Word) (q : Pulse), e.pulseGain = some g → q ∈ s.pool → q.source = e.source →
       (∀ j : Fin 32, (m + 1 - q.onset).toNat = j.val →
         let term := (liveBank s.banks).templates[q.lengthClass][j].toInt * g.toInt
         pulseTerm s m e = match q.direction with
           | .inward => term
           | .outward => -term) ∧
       (32 ≤ (m + 1 - q.onset).toNat → pulseTerm s m e = 0)))

/-- R41, R37: a read of a history by frame number. -/
def Obligations.HistoryReadByFrameNumber : Prop :=
  ∀ (h : History) (head : Option Word) (j : Word),
    (head = none → readHistory h head j = none) ∧
    (∀ (n : Word) (a : Fin 32), head = some n → (n - j).toNat = a.val → readHistory h head j = h[a]) ∧
    (∀ n : Word, head = some n → 32 ≤ (n - j).toNat → readHistory h head j = none)

/-! Command cells: answers, leases -/

/-- R148 to R150, R158: what a taken command does beside its decision: a free entry at the tail of the queue holds its one
response, and the leases of the domains its manager id and tag hold become 0. A taken cell whose code names no command is
answered BAD_VALUE and changes nothing. -/
def Obligations.TakenCommandsAreAnsweredAndRenew : Prop :=
  ((∀ (code : Byte) (r : Request) (a : Reply) (v : State),
     ∃ c : MgmtCell,
       enqueue code r a v = { v with mgmt := { v.mgmt with queue := v.mgmt.queue ++ [.ready c] } } ∧
       cellKind c = .response ∧ cellDestination c = v.startUp.node ∧ cellManager c = r.manager ∧ cellTag c = r.tag ∧
       c.seq = r.seq ∧ c.code = code ∧ c.payload = a.payload ∧ (c.status.extractLsb' 0 4).toNat = (answerCode a.answer).toNat ∧
       c.status.getLsbD 7 = a.itemFlag) ∧
   (∀ (r : Request) (s : State),
     renewLeases r s = { s with mgmt := { s.mgmt with locks := (renewLeases r s).mgmt.locks } } ∧
     ∀ d : Domain,
       (Holds r d s → ∃ h, lockOf s.mgmt.locks d = some h ∧
         lockOf (renewLeases r s).mgmt.locks d = some { h with lease := 0 }) ∧
       (¬ Holds r d s → lockOf (renewLeases r s).mgmt.locks d = lockOf s.mgmt.locks d))) ∧
  (∀ (code : Byte) (r : Request) (s u : State), Taken r s u → (Instr.unknownCommand code r).wellFormed = true →
     Answered (.unknownCommand code r) code r (plainReply .badValue) s u)

/-- R154, R127: STATUS answers the part's condition, and clears SHOCK_SEEN. That the rejection row reads 0 while the rejection record
is none is log 22. -/
def Obligations.StatusReports : Prop :=
  ∀ (r : Request) (s u : State), Taken r s u →
    ∃ p : Vector Byte 8,
      Answered (.status r) 1 r (okReply p) s { u with limit := { u.limit with shockSeen := false } } ∧
      p[0].extractLsb' 0 2 = operatingCode s.limit.mode ∧ p[0].extractLsb' 2 2 = chosenCode s.limit.request ∧
      p[0].extractLsb' 4 2 = chosenCode s.limit.saved ∧ p[0].getLsbD 6 = s.limit.shockSeen ∧
      p[0].extractLsb' 7 1 = bankCode s.banks.liveId ∧ p[1] ++ p[2] = s.banks.generation ∧
      p[3].extractLsb' 0 2 = engineCode s.banks.engine ∧ p[3].extractLsb' 2 1 = standbyCode s.banks.standbyCondition ∧
      p[3].extractLsb' 3 2 = operationCode s.banks.operation ∧ p[3].extractLsb' 5 2 = reasonCode s.startUp.reason ∧
      p[3].getLsbD 7 = s.profile.running.isSome ∧ p[4] = BitVec.ofNat 8 s.banks.progress ∧
      (s.banks.rejection = none → p[5] = 0) ∧
      (∀ x, s.banks.rejection = some x → p[5].extractLsb' 0 6 = BitVec.ofNat 6 x.row.val ∧
        p[5].extractLsb' 6 2 = match x.reason with | .undefinedKernel => 1 | .badEntry => 2 | .unstable => 3) ∧ (p[6] ++ p[7]).extractLsb' 0 13 = BitVec.ofNat 13 s.limit.holdOff ∧
      (p[6] ++ p[7]).extractLsb' 13 2 = profileCode s.profile.condition

/-- R156: CLAIM. R157: RELEASE. -/
def Obligations.ClaimAndReleaseAreDecided : Prop :=
  (∀ (r : Request) (s u : State), Taken r s u →
     let mine : Holder := { manager := r.manager, tag := r.tag, lease := 0 }
     let claimed := fun d : Domain => { u with mgmt := { u.mgmt with locks := setLock u.mgmt.locks d (some mine) } }
     (4 ≤ r.payload[0].toNat ∨ r.tag = 0 → Answered (.claim r) 2 r (plainReply .badValue) s u) ∧
     (∀ d : Domain, domainOfCode r.payload[0] = some d → r.tag ≠ 0 →
       (lockOf s.mgmt.locks d = none → Answered (.claim r) 2 r (plainReply .ok) s (claimed d)) ∧
       (∀ h, lockOf s.mgmt.locks d = some h → h.manager = r.manager → h.tag = r.tag →
         Answered (.claim r) 2 r (plainReply .ok) s (claimed d)) ∧
       (∀ h, lockOf s.mgmt.locks d = some h → ¬ (h.manager = r.manager ∧ h.tag = r.tag) →
         Answered (.claim r) 2 r
           { answer := .lockHeld, itemFlag := false, payload := #v[BitVec.ofNat 8 h.manager.val, 0, 0, 0, 0, 0, 0, 0] } s u))) ∧
  (∀ (r : Request) (s u : State), Taken r s u →
     (4 ≤ r.payload[0].toNat → Answered (.release r) 3 r (plainReply .badValue) s u) ∧
     (∀ d : Domain, domainOfCode r.payload[0] = some d →
       (Holds r d s → Answered (.release r) 3 r (plainReply .ok) s
         { u with mgmt := { u.mgmt with locks := setLock u.mgmt.locks d none } }) ∧
       (¬ Holds r d s → Answered (.release r) 3 r (plainReply .notHolder) s u)))

/-- R151: SELECT. That a refused SELECT answers with a zero payload is read from R150 (DEDUCED, log 12). -/
def Obligations.SelectIsDecided : Prop :=
  ∀ (r : Request) (s u : State), Taken r s u →
    let start := (r.payload[2] ++ r.payload[3] : Word)
    (13 < r.payload[0].toNat → Answered (.select r) 4 r (plainReply .badTable) s u) ∧
    (∀ t : Table, r.payload[0] = tableCode t →
      (itemCount t ≤ start.toNat → Answered (.select r) 4 r (plainReply .range) s u) ∧
      (start.toNat < itemCount t → (∀ m, r.payload[1] = modeCode m → admitsMode t m = false) →
        Answered (.select r) 4 r (plainReply .badMode) s u) ∧
      (∀ m : ContextMode, start.toNat < itemCount t → r.payload[1] = modeCode m → admitsMode t m = true →
        Answered (.select r) 4 r
          (okReply #v[r.payload[0], r.payload[1], r.payload[2], r.payload[3], hiByte (BitVec.ofNat 16 (itemCount t)),
            loByte (BitVec.ofNat 16 (itemCount t)), 0, 0]) s
          (setContext r { table := some t, index := start.toNat, mode := m, state := .opened } u)))

/-- R133: COMMIT. R144: RESYNC. R69: CLEAR_STANDBY. -/
def Obligations.BankCommandsAreDecided : Prop :=
  (∀ (r : Request) (s u : State), Taken r s u →
     (¬ Holds r .standby s → Answered (.commit r) 7 r (plainReply .notHolder) s u) ∧
     (Holds r .standby s → s.banks.engine ≠ .idle → Answered (.commit r) 7 r (plainReply .busy) s u) ∧
     (Holds r .standby s → s.banks.engine = .idle → s.profile.running.isSome = true →
       Answered (.commit r) 7 r (plainReply .busy) s u) ∧
     (Holds r .standby s → s.banks.engine = .idle → s.profile.running = none → s.banks.standbyCondition = .torn →
       Answered (.commit r) 7 r (plainReply .torn) s u) ∧
     (Holds r .standby s → s.banks.engine = .idle → s.profile.running = none → s.banks.standbyCondition = .clean →
       Answered (.commit r) 7 r (plainReply .accepted) s
         { u with banks := { u.banks with engine := .validating, progress := 0, operation := some .commit, rejection := none } })) ∧
  (∀ (r : Request) (s u : State), Taken r s u →
     (¬ Holds r .standby s → Answered (.resync r) 8 r (plainReply .notHolder) s u) ∧
     (Holds r .standby s → s.banks.engine ≠ .idle → Answered (.resync r) 8 r (plainReply .busy) s u) ∧
     (Holds r .standby s → s.banks.engine = .idle →
       Answered (.resync r) 8 r (plainReply .accepted) s
         { u with banks := { u.banks with engine := .resync, progress := 0, operation := some .resync } })) ∧
  (∀ (r : Request) (s u : State), Taken r s u →
     (¬ Holds r .standby s → Answered (.clearStandby r) 9 r (plainReply .notHolder) s u) ∧
     (Holds r .standby s → s.banks.engine ≠ .idle → Answered (.clearStandby r) 9 r (plainReply .busy) s u) ∧
     (Holds r .standby s → s.banks.engine = .idle →
       ∃ b : Bank, (∀ (t : Slot) (p : Fin 8), b.rows[t][p] = none) ∧
         (∀ k : Fin 128, b.kernels[k].defined = false ∧ ∀ i : Fin 16, b.kernels[k].taps[i] = 0) ∧
         (∀ (k : Fin 8) (j : Fin 32), b.templates[k][j] = 0) ∧
         Answered (.clearStandby r) 9 r (plainReply .ok) s
           { u with banks := { setStandby u.banks b with standbyCondition := .clean } }))

/-- R116: MODE. -/
def Obligations.ModeIsDecided : Prop :=
  ∀ (r : Request) (s u : State), Taken r s u →
    (¬ Holds r .config s → Answered (.mode r) 10 r (plainReply .notHolder) s u) ∧
    (Holds r .config s → 2 < r.payload[0].toNat → Answered (.mode r) 10 r (plainReply .badValue) s u) ∧
    (∀ m : ChosenMode, Holds r .config s →
      r.payload[0] = (match m with | .off => 0 | .run => 1 | .freeze => 2) →
      (s.limit.mode ≠ .shockHold →
        Answered (.mode r) 10 r (plainReply .ok) s { u with limit := { u.limit with request := some m } }) ∧
      (s.limit.mode = .shockHold →
        Answered (.mode r) 10 r (plainReply .ok) s { u with limit := { u.limit with saved := some m } }))

/-- R155, R170: ARM_CAPTURE. -/
def Obligations.ArmCaptureIsDecided : Prop :=
  ∀ (r : Request) (s u : State), Taken r s u →
    let slotOf := fun b : Byte => (b &&& 0x7F).toNat
    let channel := fun c : Fin 4 => r.payload[c.val]
    let lawful :=
      (∃ c : Fin 4, (channel c).getLsbD 7 = true) ∧ (∀ c : Fin 4, (channel c).getLsbD 7 = true → slotOf (channel c) < 64) ∧
      r.payload[4].toNat ≤ 2 ∧ (r.payload[4] = 1 → r.payload[5].toNat < 64) ∧ r.payload[6].toNat ≤ 192
    (¬ Holds r .capture s → Answered (.armCapture r) 11 r (plainReply .notHolder) s u) ∧
    (Holds r .capture s → ¬ lawful → Answered (.armCapture r) 11 r (plainReply .badValue) s u) ∧
    (∀ trigger : Trigger, Holds r .capture s → lawful → (r.payload[4] = 0 → trigger = .immediate) →
      (r.payload[4] = 1 → ∃ t : Slot, t.val = r.payload[5].toNat ∧ trigger = .seek t) → (r.payload[4] = 2 → trigger = .shock) →
      ∃ channels : Vector (Option Slot) 4,
        (∀ c : Fin 4, (channel c).getLsbD 7 = false → channels[c] = none) ∧
        (∀ c : Fin 4, (channel c).getLsbD 7 = true → ∃ t : Slot, t.val = slotOf (channel c) ∧ channels[c] = some t) ∧
        Answered (.armCapture r) 11 r (plainReply .ok) s
          { u with capture :=
            { state := if r.payload[4] = 0 then .filling else .armed
              channels := channels, trigger := trigger, preTrigger := r.payload[6].toNat, rows := [], begun := none, kept := 0
              remaining := if r.payload[4] = 0 then 256 - r.payload[6].toNat else 0 } })

/-- R155, R177, R176: PERSIST; from its acceptance on the profile is TORN (what the store holds meanwhile is log 10). R177: the end
of a PERSIST: with the read-back matching, the snapshot and the live bank are the profile, GOOD under its CRC; otherwise the
profile stays TORN. -/
def Obligations.PersistIsDecidedAndEnds : Prop :=
  (∀ (r : Request) (s u : State), Taken r s u →
     (¬ Holds r .profile s → Answered (.persist r) 12 r (plainReply .notHolder) s u) ∧
     (Holds r .profile s → s.banks.engine ≠ .idle ∨ s.profile.running.isSome = true →
       Answered (.persist r) 12 r (plainReply .busy) s u) ∧
     (Holds r .profile s → s.banks.engine = .idle → s.profile.running = none →
       Answered (.persist r) 12 r (plainReply .accepted) s
         { u with profile :=
           { condition := .torn, image := none, crc := 0, found := s.profile.found
             running := some
               { snapshot :=
                   { generation := s.banks.generation, slotMap := s.slots.map, targets := s.slots.targets,
                     params := s.limit.params, alertMap := s.alerts.map }
                 count := 0 } } })) ∧
  (∀ (p : PersistRun) (s : State), s.profile.running = some p →
     let image : ProfileImage :=
       { generation := p.snapshot.generation, bank := liveBank s.banks, slotMap := p.snapshot.slotMap,
         targets := p.snapshot.targets, params := p.snapshot.params, alertMap := p.snapshot.alertMap }
     exec (.persistEnd .matches) s =
       .next { s with
         profile :=
           { s.profile with condition := .good, image := some image, crc := crc32 (profileBytes image), running := none }
         alerts := withPending 7 s.alerts } ∧
     exec (.persistEnd .differs) s =
       .next { s with profile := { s.profile with condition := .torn, running := none }, alerts := withPending 6 s.alerts })

/-- R164: ACK_ALERT. R167: ALERT_N is driven low exactly while a pending, unmasked source is routed LINE or BOTH. -/
def Obligations.AlertsAreAcknowledgedAndShown : Prop :=
  (∀ (r : Request) (s u : State), Taken r s u →
     ∃ pending : BitVec 16,
       (∀ n : Fin 16, pending.getLsbD n =
         (s.alerts.pending.getLsbD n && !(r.payload[0] ++ r.payload[1] : Word).getLsbD n)) ∧
       Answered (.ackAlert r) 13 r (plainReply .ok) s { u with alerts := { u.alerts with pending := pending } }) ∧
  (∀ s : State,
     s.alertN = true ↔ ∃ n : Fin 16, s.alerts.pending.getLsbD n = true ∧ s.alerts.map[n].masked = false ∧
       (s.alerts.map[n].route = .line ∨ s.alerts.map[n].route = .both))

/-! DATA -/

/-- R60, R152: the refusals of DATA that come before the item: no OPEN context, the lock, the Bank Engine, a read-only table. Every
DATA row does the same in every state, and so does every READ row: the Load Context decides the table (log 5). -/
def Obligations.DataIsRefusedInOrder : Prop :=
  (∀ (r : Request) (s : State),
     (∀ i, i ∈ [Instr.dataStandbyCtReplace r, .dataStandbyCtAdd r, .dataStandbyKernelReplace r, .dataStandbyKernelAdd r,
         .dataStandbyTemplate r, .dataTargets r, .dataMutes r, .dataLimits r, .dataAlertmap r] →
       exec i s = exec (.dataSlotmap r) s) ∧
     exec (.readCounters r) s = exec (.read r) s ∧ exec (.readCapture r) s = exec (.read r) s) ∧
  ∀ (r : Request) (s u : State), Taken r s u →
    (∀ i, i ∈ [Instr.dataStandbyCtReplace r, .dataStandbyCtAdd r, .dataStandbyKernelReplace r, .dataStandbyKernelAdd r,
        .dataStandbyTemplate r, .dataSlotmap r, .dataTargets r, .dataMutes r, .dataLimits r, .dataAlertmap r] →
      ((contextOf r s).state ≠ .opened → Answered i 5 r (plainReply .range) s u) ∧
      (∀ (t : Table) (n : Nat) (m : ContextMode), OpenAt r s t n m →
        (tableDomain t = none → Answered i 5 r (plainReply .badMode) s u) ∧
        (tableDomain t = some .standby → ¬ Holds r .standby s → Answered i 5 r (plainReply .notHolder) s u) ∧
        (tableDomain t = some .standby → Holds r .standby s → s.banks.engine ≠ .idle →
          Answered i 5 r (plainReply .busy) s u) ∧
        (tableDomain t = some .config → ¬ Holds r .config s → Answered i 5 r (plainReply .notHolder) s u)))

/-- R61 and R62: a REPLACE and an ADD write to position p of row t of STANDBY_CT. -/
def Obligations.EntriesAreReplacedAndAdjusted : Prop :=
  (∀ (r : Request) (s u : State) (t : Slot) (p : Fin 8), Taken r s u →
     OpenAt r s .standbyCt (8 * t.val + p.val) .replace → Holds r .standby s → s.banks.engine = .idle →
     let i := Instr.dataStandbyCtReplace r
     let present := r.payload[0].getLsbD 0 = true
     let source := r.payload[1].toNat
     let kernel := r.payload[2].toNat
     let delay := r.payload[3].toNat
     let row := (standbyBank s.banks).rows[t]
     let inRange := source < 64 ∧ kernel < 128 ∧ delay < 16
     let clash := source = t.val ∨ ∃ (q : Fin 8) (e : Entry), q ≠ p ∧ row[q] = some e ∧ e.source.val = source
     (¬ present → AcceptedData i r .standbyCt s u (withPosition u t p none)) ∧
     (present → ¬ inRange → Answered i 5 r (plainReply .badValue) s u) ∧
     (present → inRange → clash → Answered i 5 r (plainReply .badValue) s u) ∧
     (∀ e : Entry, present → ¬ clash → e.source.val = source → e.kernel.val = kernel → e.delay.val = delay →
       e.gain = r.payload[4] ++ r.payload[5] →
       e.pulseGain = (if r.payload[0].getLsbD 1 then some (r.payload[6] ++ r.payload[7]) else none) →
       AcceptedData i r .standbyCt s u (withPosition u t p (some e)))) ∧
  (∀ (r : Request) (s u : State) (t : Slot) (p : Fin 8), Taken r s u →
     OpenAt r s .standbyCt (8 * t.val + p.val) .add → Holds r .standby s → s.banks.engine = .idle →
     let i := Instr.dataStandbyCtAdd r
     let sum := fun a b : Word => max (-32768) (min 32767 (a.toInt + b.toInt))
     let dg := (r.payload[4] ++ r.payload[5] : Word)
     let dp := (r.payload[6] ++ r.payload[7] : Word)
     ((standbyBank s.banks).rows[t][p] = none → Answered i 5 r (plainReply .badValue) s u) ∧
     (∀ e : Entry, (standbyBank s.banks).rows[t][p] = some e →
       ∃ g : Entry, g.source = e.source ∧ g.kernel = e.kernel ∧ g.delay = e.delay ∧ g.gain.toInt = sum e.gain dg ∧
         (∀ q, e.pulseGain = some q → r.payload[0].getLsbD 1 = true → ∃ q', g.pulseGain = some q' ∧ q'.toInt = sum q dp) ∧
         (∀ q, e.pulseGain = some q → r.payload[0].getLsbD 1 = false → g.pulseGain = some q) ∧
         (e.pulseGain = none → r.payload[0].getLsbD 1 = true → g.pulseGain = some dp) ∧
         (e.pulseGain = none → r.payload[0].getLsbD 1 = false → g.pulseGain = none) ∧
         AcceptedData i r .standbyCt s u (withPosition u t p (some g))))

/-- R63, R64: a write to taps 4q to 4q + 3 of kernel k of STANDBY_KERNEL. R65: a write to samples 4q to 4q + 3 of template k of
STANDBY_TEMPLATE, in either mode. -/
def Obligations.TapsAndSamplesAreWritten : Prop :=
  (∀ (r : Request) (s u : State) (k : Fin 128) (q : Fin 4), Taken r s u → Holds r .standby s → s.banks.engine = .idle →
     let old := standbyBank s.banks
     let tap := fun j : Fin 4 => (r.payload[2 * j.val] ++ r.payload[2 * j.val + 1] : Word)
     let writes := fun (i : Instr) (value : Word → Word → Int) =>
       ∃ x : Kernel, x.defined = true ∧
         (∀ (j : Fin 4) (a : Fin 16), a.val = 4 * q.val + j.val → x.taps[a].toInt = value old.kernels[k].taps[a] (tap j)) ∧
         (∀ a : Fin 16, a.val / 4 ≠ q.val → x.taps[a] = old.kernels[k].taps[a]) ∧
         AcceptedData i r .standbyKernel s u
           { u with banks := setStandby u.banks { old with kernels := old.kernels.set k x } }
     (OpenAt r s .standbyKernel (4 * k.val + q.val) .replace →
       writes (.dataStandbyKernelReplace r) fun _ item => item.toInt) ∧
     (OpenAt r s .standbyKernel (4 * k.val + q.val) .add →
       writes (.dataStandbyKernelAdd r) fun stored item => max (-32768) (min 32767 (stored.toInt + item.toInt)))) ∧
  (∀ (r : Request) (s u : State) (k q : Fin 8), Taken r s u → Holds r .standby s → s.banks.engine = .idle →
     let old := standbyBank s.banks
     let item := fun j : Fin 4 => (r.payload[2 * j.val] ++ r.payload[2 * j.val + 1] : Word)
     let writes := fun (value : Word → Word → Int) =>
       ∃ x : Template,
         (∀ (j : Fin 4) (a : Fin 32), a.val = 4 * q.val + j.val → x[a].toInt = value old.templates[k][a] (item j)) ∧
         (∀ a : Fin 32, a.val / 4 ≠ q.val → x[a] = old.templates[k][a]) ∧
         AcceptedData (.dataStandbyTemplate r) r .standbyTemplate s u
           { u with banks := setStandby u.banks { old with templates := old.templates.set k x } }
     (OpenAt r s .standbyTemplate (8 * k.val + q.val) .replace → writes fun _ item => item.toInt) ∧
     (OpenAt r s .standbyTemplate (8 * k.val + q.val) .add →
       writes fun stored item => max (-32768) (min 32767 (stored.toInt + item.toInt))))

/-- R22, R23: a SLOTMAP write to slot t. -/
def Obligations.SlotIsRemapped : Prop :=
  ∀ (r : Request) (s u : State) (t : Slot), Taken r s u → OpenAt r s .slotmap t.val .replace → Holds r .config s →
    let i := Instr.dataSlotmap r
    let b := r.payload[0].toNat
    (64 ≤ b → b ≠ 255 → Answered i 5 r (plainReply .badValue) s u) ∧
    (b = 255 → s.slots.map[t] = none → AcceptedData i r .slotmap s u u) ∧
    (b = 255 → s.slots.map[t] ≠ none → AcceptedData i r .slotmap s u (remapped t none u)) ∧
    (∀ c : Fin 64, b = c.val →
      (s.slots.map[t] = some c → AcceptedData i r .slotmap s u u) ∧
      (s.slots.map[t] ≠ some c → (∃ w : Slot, w ≠ t ∧ s.slots.map[w] = some c) → Answered i 5 r (plainReply .badValue) s u) ∧
      (s.slots.map[t] ≠ some c → (∀ w : Slot, w ≠ t → s.slots.map[w] ≠ some c) →
        AcceptedData i r .slotmap s u (remapped t (some c) u)))

/-- R25: a TARGETS write in each mode, and a READ of TARGETS. -/
def Obligations.TargetSetIsWrittenAndRead : Prop :=
  ∀ (r : Request) (s u : State) (m : ContextMode), Taken r s u → OpenAt r s .targets 0 m →
    let operand := fun t : Slot => r.payload[t.val / 8].getLsbD (t.val % 8)
    (Holds r .config s → m = .replace ∨ m = .set ∨ m = .clear →
      ∃ set : SlotSet,
        (∀ t : Slot, set.getLsbD t = match m with
          | .set => s.slots.targets.getLsbD t || operand t
          | .clear => s.slots.targets.getLsbD t && !operand t
          | _ => operand t) ∧
        AcceptedData (.dataTargets r) r .targets s u { u with slots := { u.slots with targets := set } }) ∧
    (∃ p : Vector Byte 8, (∀ t : Slot, p[t.val / 8].getLsbD (t.val % 8) = s.slots.targets.getLsbD t) ∧
      AnsweredItem (.read r) r .targets false p s u u)

/-- R122: a MUTES write in SET and in CLEAR mode, and a READ of MUTES. R129: a LIMITS write to item n, and a READ of it. R165: an
ALERTMAP write to source n, and a READ of it. -/
def Obligations.ConfigurationIsWrittenAndRead : Prop :=
  (∀ (r : Request) (s u : State) (m : ContextMode), Taken r s u → OpenAt r s .mutes 0 m →
     let operand := fun t : Slot => r.payload[t.val / 8].getLsbD (t.val % 8)
     let member := fun t : Slot => s.limit.muteSet.getLsbD t
     (Holds r .config s → m = .set →
       ∃ (set : SlotSet) (records : Vector LimitRecord 64),
         (∀ t : Slot, set.getLsbD t = (member t || operand t)) ∧
         (∀ t : Slot, operand t = true → member t = false → records[t] = { level := .muted, saturation := 0, recovery := 0 }) ∧
         (∀ t : Slot, operand t = false ∨ member t = true → records[t] = s.limit.records[t]) ∧
         AcceptedData (.dataMutes r) r .mutes s u { u with limit := { u.limit with muteSet := set, records := records } }) ∧
     (Holds r .config s → m = .clear →
       ∃ (set : SlotSet) (records : Vector LimitRecord 64),
         (∀ t : Slot, set.getLsbD t = (member t && !operand t)) ∧
         (∀ t : Slot, operand t = true → member t = true → records[t] = { level := .normal, saturation := 0, recovery := 0 }) ∧
         (∀ t : Slot, operand t = false ∨ member t = false → records[t] = s.limit.records[t]) ∧
         AcceptedData (.dataMutes r) r .mutes s u { u with limit := { u.limit with muteSet := set, records := records } }) ∧
     (∃ p : Vector Byte 8, (∀ t : Slot, p[t.val / 8].getLsbD (t.val % 8) = member t) ∧
       AnsweredItem (.read r) r .mutes false p s u u)) ∧
  (∀ (r : Request) (s u : State) (n : Fin 6) (m : ContextMode), Taken r s u → OpenAt r s .limits n.val m →
     let v := (r.payload[0] ++ r.payload[1] : Word)
     let range : Nat × Nat := #v[(8, 1024), (256, 65535), (1000, 32767), (1, 64), (16, 4096), (1, 255)][n]
     let item := fun p : Limits =>
       #v[p.saturationThreshold, p.recoveryPeriod, p.shockThreshold, p.shockQuorum, p.shockHoldOff, p.rowStability][n]
     (Holds r .config s → range.1 ≤ v.toNat → v.toNat ≤ range.2 →
       ∃ p : Limits, item p = v ∧ (∀ k : Fin 6, k ≠ n → limitItem p k = limitItem s.limit.params k) ∧
         AcceptedData (.dataLimits r) r .limits s u { u with limit := { u.limit with params := p } }) ∧
     (Holds r .config s → v.toNat < range.1 ∨ range.2 < v.toNat → Answered (.dataLimits r) 5 r (plainReply .badValue) s u) ∧
     AnsweredItem (.read r) r .limits false
       #v[hiByte (item s.limit.params), loByte (item s.limit.params), 0, 0, 0, 0, 0, 0] s u u) ∧
  (∀ (r : Request) (s u : State) (n : Fin 16) (m : ContextMode), Taken r s u → OpenAt r s .alertmap n.val m →
     (Holds r .config s → ∀ route : AlertRoute, r.payload[1] = (match route with | .inBand => 0 | .line => 1 | .both => 2) →
       AcceptedData (.dataAlertmap r) r .alertmap s u
         { u with alerts :=
           { u.alerts with map := u.alerts.map.set n { masked := r.payload[0].getLsbD 0, route := route } } }) ∧
     (Holds r .config s → 2 < r.payload[1].toNat → Answered (.dataAlertmap r) 5 r (plainReply .badValue) s u) ∧
     (∃ p : Vector Byte 8, p[0].getLsbD 0 = s.alerts.map[n].masked ∧
       p[1] = (match s.alerts.map[n].route with | .inBand => 0 | .line => 1 | .both => 2) ∧
       AnsweredItem (.read r) r .alertmap false p s u u))

/-! READ -/

/-- R153, R67: the refusals of READ, and the items of the bank tables (R59). R24, R113: a READ of a SLOTMAP item and of a PULSES
item. -/
def Obligations.TablesAreRead : Prop :=
  (∀ (r : Request) (s u : State) (m : ContextMode), Taken r s u →
     let i := Instr.read r
     (∀ j, j ∈ [Instr.read r, .readCounters r, .readCapture r] → (contextOf r s).state ≠ .opened →
       Answered j 6 r (plainReply .range) s u) ∧
     (∀ (t : Table) (n : Nat), t = .standbyCt ∨ t = .standbyKernel ∨ t = .standbyTemplate → OpenAt r s t n m →
       s.banks.engine ≠ .idle → Answered i 6 r (plainReply .busy) s u) ∧
     (∀ (table : Table) (b : Bank) (t : Slot) (p : Fin 8),
       table = .standbyCt ∧ s.banks.engine = .idle ∧ b = standbyBank s.banks ∨ table = .liveCt ∧ b = liveBank s.banks →
       OpenAt r s table (8 * t.val + p.val) m →
       (b.rows[t][p] = none → AnsweredItem i r table false #v[0, 0, 0, 0, 0, 0, 0, 0] s u u) ∧
       (∀ e, b.rows[t][p] = some e →
         ∃ x : Vector Byte 8,
           x[0] = (if e.pulseGain.isSome then 3 else 1) ∧ x[1] = BitVec.ofNat 8 e.source.val ∧
           x[2] = BitVec.ofNat 8 e.kernel.val ∧ x[3] = BitVec.ofNat 8 e.delay.val ∧ x[4] ++ x[5] = e.gain ∧
           x[6] ++ x[7] = e.pulseGain.getD 0 ∧ AnsweredItem i r table false x s u u)) ∧
     (∀ (table : Table) (b : Bank) (k : Fin 128) (q : Fin 4),
       table = .standbyKernel ∧ s.banks.engine = .idle ∧ b = standbyBank s.banks ∨ table = .liveKernel ∧ b = liveBank s.banks →
       OpenAt r s table (4 * k.val + q.val) m →
       ∃ p : Vector Byte 8,
         (∀ (j : Fin 4) (a : Fin 16), a.val = 4 * q.val + j.val → p[2 * j.val] ++ p[2 * j.val + 1] = b.kernels[k].taps[a]) ∧
         AnsweredItem i r table b.kernels[k].defined p s u u) ∧
     (∀ (table : Table) (b : Bank) (k q : Fin 8),
       table = .standbyTemplate ∧ s.banks.engine = .idle ∧ b = standbyBank s.banks ∨
         table = .liveTemplate ∧ b = liveBank s.banks →
       OpenAt r s table (8 * k.val + q.val) m →
       ∃ p : Vector Byte 8,
         (∀ (j : Fin 4) (a : Fin 32), a.val = 4 * q.val + j.val → p[2 * j.val] ++ p[2 * j.val + 1] = b.templates[k][a]) ∧
         AnsweredItem i r table false p s u u)) ∧
  (∀ (r : Request) (s u : State) (m : ContextMode), Taken r s u →
     (∀ t : Slot, OpenAt r s .slotmap t.val m →
       ∃ p : Vector Byte 8,
         p[0] = (match s.slots.map[t] with | some c => BitVec.ofNat 8 c.val | none => 255) ∧
         p[1] = (match s.slots.records[t].state with | .detached => 0 | .settling => 1 | .attached => 2) ∧
         p[2] ++ p[3] = BitVec.ofNat 16 s.slots.records[t].settle ∧
         AnsweredItem (.read r) r .slotmap false p s u u) ∧
     (∀ n : Fin 24, OpenAt r s .pulses n.val m →
       (s.pool.length ≤ n.val → AnsweredItem (.read r) r .pulses false #v[0, 0, 0, 0, 0, 0, 0, 0] s u u) ∧
       (∀ q, s.pool[n.val]? = some q →
         ∃ p : Vector Byte 8,
           p[0].getLsbD 0 = true ∧ p[0].getLsbD 1 = decide (q.direction = .outward) ∧
           p[0].getLsbD 2 = decide (q.play = .playing) ∧ p[1] = BitVec.ofNat 8 q.source.val ∧
           p[2] = BitVec.ofNat 8 q.lengthClass.val ∧ p[3] = BitVec.ofInt 8 q.position ∧ p[4] ++ p[5] = q.onset ∧
           AnsweredItem (.read r) r .pulses false p s u u)))

/-- R168: a READ of a COUNTERS item answers the counter and clears it, and no other. R174: a READ of item 256 c + k of CAPTURE. -/
def Obligations.CountersAndCaptureAreRead : Prop :=
  (∀ (r : Request) (s u : State) (m : ContextMode) (n : Fin 10), Taken r s u → OpenAt r s .counters n.val m →
     ∀ i, i ∈ [Instr.readCounters r, .read r] →
       AnsweredItem i r .counters false
         #v[hiByte s.counters[n], loByte s.counters[n], 0, 0, 0, 0, 0, 0] s u { u with counters := u.counters.set n 0 }) ∧
  (∀ (r : Request) (s u : State) (m : ContextMode) (c : Fin 4) (k : Fin 256), Taken r s u →
     OpenAt r s .capture (256 * c.val + k.val) m →
     ∀ i, i ∈ [Instr.readCapture r, .read r] →
       (s.capture.state = .idle → Answered i 6 r (plainReply .empty) s u) ∧
       (s.capture.state = .armed ∨ s.capture.state = .filling → Answered i 6 r (plainReply .busy) s u) ∧
       (s.capture.state = .done → s.capture.rows.length ≤ k.val → Answered i 6 r (plainReply .empty) s u) ∧
       (∀ row, s.capture.state = .done → s.capture.rows[k.val]? = some row →
         (row.items[c] = none → Answered i 6 r (plainReply .empty) s u) ∧
         (∀ x, row.items[c] = some x →
           ∃ p : Vector Byte 8,
             p[0] ++ p[1] = x.sample.getD 0 ∧ p[2].getLsbD 0 = x.sample.isNone ∧ p[3] ++ p[4] = x.last ∧
             p[5] = statusCode x.status ∧ p[6] ++ p[7] = row.frame ∧
             AnsweredItem i r .capture (decide (k.val = s.capture.kept)) p s u u)))

/-! Power and resets -/

/-- What every reset and every power-up leaves of the runtime state (R20, R50, R95, R114, R146, R160, R169, R175). -/
def Sys2Proof.Machine.RuntimeCleared (t : State) : Prop :=
  t.ports.lock = .searching ∧ t.ports.candidate = none ∧ t.ports.badRun = 0 ∧ t.ports.lastGood = none ∧
  t.ports.frameMatch = .noFrame ∧ (∀ u : Slot, t.slots.records[u] = { state := .detached, settle := 0 }) ∧
  (∀ u : Slot, t.intake.history[u] = History.holes) ∧ t.intake.head = none ∧
  t.banks.engine = .idle ∧ t.banks.progress = 0 ∧ t.banks.operation = none ∧ t.banks.rejection = none ∧
  t.coupling.pass = none ∧ (∀ u : Slot, t.coupling.targets[u] = { last := 0, stamp := none, fresh := false }) ∧ t.pool = [] ∧
  t.limit.request = none ∧ t.limit.saved = none ∧ t.limit.shockSeen = false ∧ t.limit.holdOff = 0 ∧
  t.mgmt.queue = [] ∧ (∀ d : Domain, lockOf t.mgmt.locks d = none) ∧
  (∀ k : ManagerId, t.mgmt.contexts[k] = { table := none, index := 0, mode := .plain, state := .unselected }) ∧
  (∀ c : Fin 10, t.counters[c] = 0) ∧ t.capture = Capture.initial ∧ t.profile.running = none ∧
  t.alerts.pending.getLsbD 0 = true

/-- What a profile load leaves, GOOD or not, on a part whose store held p (R70, R176, R179). -/
def Sys2Proof.Machine.ProfileLoaded (p : ProfileStore) (t : State) : Prop :=
  t.banks.liveId = .a ∧ t.banks.standbyCondition = .clean ∧ t.limit.muteSet = 0 ∧
  (∀ u : Slot, t.limit.records[u] = { level := .normal, saturation := 0, recovery := 0 }) ∧
  (∀ im, p.condition = .good → p.image = some im → crc32 (profileBytes im) = p.crc →
    t.banks.bankA = im.bank ∧ t.banks.bankB = im.bank ∧ t.banks.generation = im.generation ∧ t.slots.map = im.slotMap ∧
    t.slots.targets = im.targets ∧ t.limit.params = im.params ∧ t.alerts.map = im.alertMap ∧
    t.limit.mode = t.startUp.startMode.operating ∧ t.profile = { p with found := true } ∧ t.alerts.pending = 1) ∧
  ((∀ im, p.condition = .good → p.image = some im → crc32 (profileBytes im) ≠ p.crc) →
    t.banks.bankA = Bank.cleared ∧ t.banks.bankB = Bank.cleared ∧ t.banks.generation = 0 ∧
    (∀ u : Slot, t.slots.map[u] = some u ∧ t.slots.targets.getLsbD u = true) ∧ t.limit.params = Limits.defaults ∧
    (∀ n : Fin 16, t.alerts.map[n] = { masked := false, route := .inBand }) ∧ t.limit.mode = .off ∧
    t.profile = { p with condition := if p.condition = .blank then .blank else .torn, found := false } ∧
    t.alerts.pending = 0x4001)

/-- R179: power applied with RST_N high, or RST_N rising on a part that waits, runs the power-up sequence; with RST_N low it waits.
A part that still has its supply loses it first, and a PERSIST in progress with it (log 8). That the loaded values stand before the
load has ended is the model's choice (log 7). R7, R20: the end of a profile load makes the ports ACTIVE in SEARCHING, unless RST_N
is low. -/
def Obligations.PowerUpRunsTheSequence : Prop :=
  (∀ (x : Straps) (s : State),
     let store := if s.profile.running.isSome then { s.profile with condition := .torn, running := none } else s.profile
     (∃ t, exec (.powerUp x true) s = .next t ∧ RuntimeCleared t ∧ ProfileLoaded store t ∧ t.ports.condition = .transparent ∧
       t.startUp = { phase := .loading, rstN := true, node := x.node, startMode := if x.startRun then .run else .off, reason := .powerUp }) ∧
     (∃ t, exec (.powerUp x false) s = .next t ∧ t.startUp.phase = .waiting ∧ t.startUp.rstN = false ∧
       t.ports.condition = .transparent ∧ t.profile = { store with found := false }) ∧
     (s.startUp.phase = .waiting → s.startUp.rstN = false →
       ∃ t, exec (.rstNRise x) s = .next t ∧ RuntimeCleared t ∧ ProfileLoaded store t ∧ t.ports.condition = .transparent ∧
         t.startUp = { phase := .loading, rstN := true, node := x.node, startMode := if x.startRun then .run else .off, reason := .powerUp })) ∧
  (∀ s : State, s.startUp.phase = .loading →
     exec .profileLoadEnd s =
       .next { s with
         ports :=
           { condition := if s.startUp.rstN then .active else .transparent, lock := .searching, candidate := none, badRun := 0,
             lastGood := none, frameMatch := .noFrame, composing := none, outbOut := s.ports.outbOut, retOut := s.ports.retOut }
         startUp := { s.startUp with phase := .running } })

/-- R180, R159: a FULL reset runs the power-up sequence without sampling the straps; a PERSIST in progress ends TORN. It begins at
the end of the passage of the RESET, and at once for a RESET row (log 5); that the loaded values stand before the load has ended is
log 7. R18: a RESET row in a passage that has taken another RESET does what the first one asks. R181 with R36, R71, R131, R145,
R169: a WARM reset, by a taken command or by the rising edge of RST_N (during a load at once, log 7), keeps the banks, roles,
generation, configuration tables, Mute Set, profile and strap values, and clears the rest. -/
def Obligations.ResetsRestartAndKeep : Prop :=
  ((∀ s : State,
     let store := if s.profile.running.isSome then { s.profile with condition := .torn, running := none } else s.profile
     let restarts := fun t : State =>
       RuntimeCleared t ∧ ProfileLoaded store t ∧ t.ports.condition = .transparent ∧
       t.startUp = { s.startUp with phase := .loading, reason := .full }
     (restarts (beginReset (some .full) s) ∧ (beginReset (some .full) s).ports.outbOut = s.ports.outbOut) ∧
     (∀ (r : Request) (u : State), Taken r s u → (Instr.resetFull r).wellFormed = true →
       (∀ c, s.ports.composing = some c → c.reset ≠ some .warm) → ∃ t, exec (.resetFull r) s = .next t ∧ restarts t)) ∧
   (∀ s : State, beginReset none s = s) ∧
   (∀ (r : Request) (c : Composing) (s : State), s.ports.composing = some c → c.reset.isSome = true →
     exec (.resetFull r) s = exec (.resetWarm r) s)) ∧
  (∀ s : State,
     let keeps := fun (reason : ResetReason) (t : State) =>
       RuntimeCleared t ∧ t.banks.bankA = s.banks.bankA ∧ t.banks.bankB = s.banks.bankB ∧ t.banks.liveId = s.banks.liveId ∧
       t.banks.generation = s.banks.generation ∧
       t.banks.standbyCondition = (if s.banks.engine = .resync then .torn else s.banks.standbyCondition) ∧
       t.slots.map = s.slots.map ∧ t.slots.targets = s.slots.targets ∧ t.limit.params = s.limit.params ∧
       t.limit.muteSet = s.limit.muteSet ∧
       (∀ u : Slot, t.limit.records[u] =
         { level := if s.limit.muteSet.getLsbD u then .muted else .normal, saturation := 0, recovery := 0 }) ∧
       t.limit.mode = (if s.profile.found then s.startUp.startMode.operating else .off) ∧ t.alerts.map = s.alerts.map ∧
       t.alerts.pending = 1 ∧
       t.profile = (if s.profile.running.isSome then { s.profile with condition := .torn, running := none } else s.profile) ∧
       t.startUp.node = s.startUp.node ∧ t.startUp.startMode = s.startUp.startMode ∧ t.startUp.reason = reason ∧
       t.startUp.rstN = true ∧ t.startUp.phase = s.startUp.phase
     (s.startUp.rstN = true → keeps .warmInband (beginReset (some .warm) s) ∧
       (beginReset (some .warm) s).ports.condition = .active ∧ (beginReset (some .warm) s).ports.outbOut = s.ports.outbOut) ∧
     (∀ (r : Request) (u : State), Taken r s u → s.startUp.rstN = true → (Instr.resetWarm r).wellFormed = true →
       (∀ c, s.ports.composing = some c → c.reset ≠ some .full) →
       ∃ t, exec (.resetWarm r) s = .next t ∧ keeps .warmInband t ∧ t.ports.condition = .active) ∧
     (∀ x : Straps, s.startUp.rstN = false → s.startUp.phase = .running →
       ∃ t, exec (.rstNRise x) s = .next t ∧ keeps .warmLine t ∧ t.ports.condition = .active) ∧
     (∀ x : Straps, s.startUp.rstN = false → s.startUp.phase = .loading →
       ∃ t, exec (.rstNRise x) s = .next t ∧ keeps .warmLine t ∧ t.ports.condition = .transparent))

/-- R7, R145, R181: the falling edge of RST_N makes the ports TRANSPARENT, ends a bank operation and ends a PERSIST with the profile
TORN; a passage in composition completes with the changes made, and a RESET taken in it begins. That a pass is abandoned with its
items in progress, the histories are flushed and the rejection record becomes none at this edge is log 20. R176: loss of power
keeps the profile, TORN when a PERSIST was in progress, and the queue. What the volatile state is without power is log 11. -/
def Obligations.ResetLineFallsAndPowerIsLost : Prop :=
  (∀ s : State, s.startUp.rstN = true →
     let c := match s.ports.composing with
       | none => s
       | some x => beginReset x.reset { s with ports := { s.ports with composing := none, outbOut := some (regenerate x.frame) } }
     exec .rstNFall s =
       .next { c with
         ports := { c.ports with condition := .transparent }
         intake := flushedIntake c.intake
         coupling := { c.coupling with pass := none }
         capture := { c.capture with begun := none }
         banks :=
           { c.banks with
             standbyCondition := if c.banks.engine = .resync then .torn else c.banks.standbyCondition
             engine := .idle, progress := 0, operation := none, rejection := none }
         profile := if c.profile.running.isSome then { c.profile with condition := .torn, running := none } else c.profile
         startUp := { c.startUp with rstN := false } }) ∧
  (∀ s : State, ∃ t, exec .lossOfPower s = .next t ∧ t.startUp.phase = .unpowered ∧ t.ports.condition = .transparent ∧
     t.profile.image = s.profile.image ∧ t.profile.crc = s.profile.crc ∧ t.profile.running = none ∧
     t.profile.condition = (if s.profile.running.isSome then .torn else s.profile.condition) ∧ t.pending = s.pending)

/-! Invariants -/

/-- R7, R8, R9, R14: the ports stay lawful. R43, R49, R73, R93: while the part is not on the loop no pass runs and every history
holds holes only (for the time that RST_N is low, log 20). -/
def Obligations.PortsStayLawful : Prop :=
  (∀ s t : State, PortsLawful s → step s = .next t → PortsLawful t) ∧
  (∀ s t : State, PortsLawful s → OffLoopLawful s → step s = .next t → OffLoopLawful t)

/-- R21, R27: no two slots share a cell, and settle counts stay lawful. -/
def Obligations.SlotsStayLawful : Prop :=
  ∀ s t : State, MapsLawful s → RecordsLawful s → step s = .next t → MapsLawful t ∧ RecordsLawful t

/-- R54, R132, R176: rows, Bank Engine and profile stay lawful. -/
def Obligations.BanksStayLawful : Prop :=
  ∀ s t : State, BanksLawful s → EngineLawful s → ProfileLawful s → step s = .next t →
    BanksLawful t ∧ EngineLawful t ∧ ProfileLawful t

/-- R3, R72: no last correction is ever -32,768. R96, R98: the Pulse Pool holds at most 24 instances, one per source,
evaluated for one frame and in the order of R98, and none in OFF, in SHOCK_HOLD or without lock. -/
def Obligations.CorrectionsAndPoolStayLawful : Prop :=
  (∀ s t : State, CorrectionsLawful s → step s = .next t → CorrectionsLawful t) ∧
  (∀ s t : State, PoolLawful s → step s = .next t → PoolLawful t)

/-- R119, R122, R129: Mute Set and levels agree, and limits, ladder records and hold-off count stay in range. -/
def Obligations.LimitsStayLawful : Prop :=
  ∀ s t : State, MutesLawful s → LimitsLawful s → step s = .next t → MutesLawful t ∧ LimitsLawful t

/-- R149, R151, R156: the Response Queue never exceeds 8 entries, contexts and locks stay lawful. -/
def Obligations.ManagementStaysLawful : Prop :=
  ∀ s t : State, PortsLawful s → QueueLawful s → LocksLawful s → ContextsLawful s → step s = .next t →
    QueueLawful t ∧ LocksLawful t ∧ ContextsLawful t

/-- R170 to R174: the recording stays in step with its counts. -/
def Obligations.CaptureStaysLawful : Prop := ∀ s t : State, CaptureLawful s → step s = .next t → CaptureLawful t

/-- The state after reset is lawful. Strap levels, the blank store and the outputs are the model's choice (log 1). -/
def Obligations.ResetIsLawful : Prop :=
  PortsLawful State.reset ∧ OffLoopLawful State.reset ∧ MapsLawful State.reset ∧ RecordsLawful State.reset ∧ BanksLawful State.reset ∧
  EngineLawful State.reset ∧ ProfileLawful State.reset ∧ CorrectionsLawful State.reset ∧ PoolLawful State.reset ∧
  MutesLawful State.reset ∧ LimitsLawful State.reset ∧ QueueLawful State.reset ∧ LocksLawful State.reset ∧
  ContextsLawful State.reset ∧ CaptureLawful State.reset ∧ RuntimeCleared State.reset ∧
  State.reset.ports.condition = .active ∧ State.reset.pending = []
end

