-- ==== Sys2Proof/Laws/State.lean ====
section
/-! SUPPORT. The fields of the state after each setter: the field set, and every other field as it was. -/

namespace Sys2Proof.Machine

@[simp] theorem State.ports_setPorts (s : State) (x : LoopPorts) : (s.setPorts x).ports = x := rfl
@[simp] theorem State.slots_setPorts (s : State) (x : LoopPorts) : (s.setPorts x).slots = s.slots := rfl
@[simp] theorem State.intake_setPorts (s : State) (x : LoopPorts) : (s.setPorts x).intake = s.intake := rfl
@[simp] theorem State.banks_setPorts (s : State) (x : LoopPorts) : (s.setPorts x).banks = s.banks := rfl
@[simp] theorem State.coupling_setPorts (s : State) (x : LoopPorts) : (s.setPorts x).coupling = s.coupling := rfl
@[simp] theorem State.pool_setPorts (s : State) (x : LoopPorts) : (s.setPorts x).pool = s.pool := rfl
@[simp] theorem State.limit_setPorts (s : State) (x : LoopPorts) : (s.setPorts x).limit = s.limit := rfl
@[simp] theorem State.mgmt_setPorts (s : State) (x : LoopPorts) : (s.setPorts x).mgmt = s.mgmt := rfl
@[simp] theorem State.alerts_setPorts (s : State) (x : LoopPorts) : (s.setPorts x).alerts = s.alerts := rfl
@[simp] theorem State.counters_setPorts (s : State) (x : LoopPorts) : (s.setPorts x).counters = s.counters := rfl
@[simp] theorem State.capture_setPorts (s : State) (x : LoopPorts) : (s.setPorts x).capture = s.capture := rfl
@[simp] theorem State.profile_setPorts (s : State) (x : LoopPorts) : (s.setPorts x).profile = s.profile := rfl
@[simp] theorem State.startUp_setPorts (s : State) (x : LoopPorts) : (s.setPorts x).startUp = s.startUp := rfl
@[simp] theorem State.pending_setPorts (s : State) (x : LoopPorts) : (s.setPorts x).pending = s.pending := rfl

@[simp] theorem State.ports_setSlots (s : State) (x : SlotUnit) : (s.setSlots x).ports = s.ports := rfl
@[simp] theorem State.slots_setSlots (s : State) (x : SlotUnit) : (s.setSlots x).slots = x := rfl
@[simp] theorem State.intake_setSlots (s : State) (x : SlotUnit) : (s.setSlots x).intake = s.intake := rfl
@[simp] theorem State.banks_setSlots (s : State) (x : SlotUnit) : (s.setSlots x).banks = s.banks := rfl
@[simp] theorem State.coupling_setSlots (s : State) (x : SlotUnit) : (s.setSlots x).coupling = s.coupling := rfl
@[simp] theorem State.pool_setSlots (s : State) (x : SlotUnit) : (s.setSlots x).pool = s.pool := rfl
@[simp] theorem State.limit_setSlots (s : State) (x : SlotUnit) : (s.setSlots x).limit = s.limit := rfl
@[simp] theorem State.mgmt_setSlots (s : State) (x : SlotUnit) : (s.setSlots x).mgmt = s.mgmt := rfl
@[simp] theorem State.alerts_setSlots (s : State) (x : SlotUnit) : (s.setSlots x).alerts = s.alerts := rfl
@[simp] theorem State.counters_setSlots (s : State) (x : SlotUnit) : (s.setSlots x).counters = s.counters := rfl
@[simp] theorem State.capture_setSlots (s : State) (x : SlotUnit) : (s.setSlots x).capture = s.capture := rfl
@[simp] theorem State.profile_setSlots (s : State) (x : SlotUnit) : (s.setSlots x).profile = s.profile := rfl
@[simp] theorem State.startUp_setSlots (s : State) (x : SlotUnit) : (s.setSlots x).startUp = s.startUp := rfl
@[simp] theorem State.pending_setSlots (s : State) (x : SlotUnit) : (s.setSlots x).pending = s.pending := rfl

@[simp] theorem State.ports_setIntake (s : State) (x : Intake) : (s.setIntake x).ports = s.ports := rfl
@[simp] theorem State.slots_setIntake (s : State) (x : Intake) : (s.setIntake x).slots = s.slots := rfl
@[simp] theorem State.intake_setIntake (s : State) (x : Intake) : (s.setIntake x).intake = x := rfl
@[simp] theorem State.banks_setIntake (s : State) (x : Intake) : (s.setIntake x).banks = s.banks := rfl
@[simp] theorem State.coupling_setIntake (s : State) (x : Intake) : (s.setIntake x).coupling = s.coupling := rfl
@[simp] theorem State.pool_setIntake (s : State) (x : Intake) : (s.setIntake x).pool = s.pool := rfl
@[simp] theorem State.limit_setIntake (s : State) (x : Intake) : (s.setIntake x).limit = s.limit := rfl
@[simp] theorem State.mgmt_setIntake (s : State) (x : Intake) : (s.setIntake x).mgmt = s.mgmt := rfl
@[simp] theorem State.alerts_setIntake (s : State) (x : Intake) : (s.setIntake x).alerts = s.alerts := rfl
@[simp] theorem State.counters_setIntake (s : State) (x : Intake) : (s.setIntake x).counters = s.counters := rfl
@[simp] theorem State.capture_setIntake (s : State) (x : Intake) : (s.setIntake x).capture = s.capture := rfl
@[simp] theorem State.profile_setIntake (s : State) (x : Intake) : (s.setIntake x).profile = s.profile := rfl
@[simp] theorem State.startUp_setIntake (s : State) (x : Intake) : (s.setIntake x).startUp = s.startUp := rfl
@[simp] theorem State.pending_setIntake (s : State) (x : Intake) : (s.setIntake x).pending = s.pending := rfl

@[simp] theorem State.ports_setBanks (s : State) (x : BankUnit) : (s.setBanks x).ports = s.ports := rfl
@[simp] theorem State.slots_setBanks (s : State) (x : BankUnit) : (s.setBanks x).slots = s.slots := rfl
@[simp] theorem State.intake_setBanks (s : State) (x : BankUnit) : (s.setBanks x).intake = s.intake := rfl
@[simp] theorem State.banks_setBanks (s : State) (x : BankUnit) : (s.setBanks x).banks = x := rfl
@[simp] theorem State.coupling_setBanks (s : State) (x : BankUnit) : (s.setBanks x).coupling = s.coupling := rfl
@[simp] theorem State.pool_setBanks (s : State) (x : BankUnit) : (s.setBanks x).pool = s.pool := rfl
@[simp] theorem State.limit_setBanks (s : State) (x : BankUnit) : (s.setBanks x).limit = s.limit := rfl
@[simp] theorem State.mgmt_setBanks (s : State) (x : BankUnit) : (s.setBanks x).mgmt = s.mgmt := rfl
@[simp] theorem State.alerts_setBanks (s : State) (x : BankUnit) : (s.setBanks x).alerts = s.alerts := rfl
@[simp] theorem State.counters_setBanks (s : State) (x : BankUnit) : (s.setBanks x).counters = s.counters := rfl
@[simp] theorem State.capture_setBanks (s : State) (x : BankUnit) : (s.setBanks x).capture = s.capture := rfl
@[simp] theorem State.profile_setBanks (s : State) (x : BankUnit) : (s.setBanks x).profile = s.profile := rfl
@[simp] theorem State.startUp_setBanks (s : State) (x : BankUnit) : (s.setBanks x).startUp = s.startUp := rfl
@[simp] theorem State.pending_setBanks (s : State) (x : BankUnit) : (s.setBanks x).pending = s.pending := rfl

@[simp] theorem State.ports_setCoupling (s : State) (x : Coupling) : (s.setCoupling x).ports = s.ports := rfl
@[simp] theorem State.slots_setCoupling (s : State) (x : Coupling) : (s.setCoupling x).slots = s.slots := rfl
@[simp] theorem State.intake_setCoupling (s : State) (x : Coupling) : (s.setCoupling x).intake = s.intake := rfl
@[simp] theorem State.banks_setCoupling (s : State) (x : Coupling) : (s.setCoupling x).banks = s.banks := rfl
@[simp] theorem State.coupling_setCoupling (s : State) (x : Coupling) : (s.setCoupling x).coupling = x := rfl
@[simp] theorem State.pool_setCoupling (s : State) (x : Coupling) : (s.setCoupling x).pool = s.pool := rfl
@[simp] theorem State.limit_setCoupling (s : State) (x : Coupling) : (s.setCoupling x).limit = s.limit := rfl
@[simp] theorem State.mgmt_setCoupling (s : State) (x : Coupling) : (s.setCoupling x).mgmt = s.mgmt := rfl
@[simp] theorem State.alerts_setCoupling (s : State) (x : Coupling) : (s.setCoupling x).alerts = s.alerts := rfl
@[simp] theorem State.counters_setCoupling (s : State) (x : Coupling) : (s.setCoupling x).counters = s.counters := rfl
@[simp] theorem State.capture_setCoupling (s : State) (x : Coupling) : (s.setCoupling x).capture = s.capture := rfl
@[simp] theorem State.profile_setCoupling (s : State) (x : Coupling) : (s.setCoupling x).profile = s.profile := rfl
@[simp] theorem State.startUp_setCoupling (s : State) (x : Coupling) : (s.setCoupling x).startUp = s.startUp := rfl
@[simp] theorem State.pending_setCoupling (s : State) (x : Coupling) : (s.setCoupling x).pending = s.pending := rfl

@[simp] theorem State.ports_setPool (s : State) (x : List Pulse) : (s.setPool x).ports = s.ports := rfl
@[simp] theorem State.slots_setPool (s : State) (x : List Pulse) : (s.setPool x).slots = s.slots := rfl
@[simp] theorem State.intake_setPool (s : State) (x : List Pulse) : (s.setPool x).intake = s.intake := rfl
@[simp] theorem State.banks_setPool (s : State) (x : List Pulse) : (s.setPool x).banks = s.banks := rfl
@[simp] theorem State.coupling_setPool (s : State) (x : List Pulse) : (s.setPool x).coupling = s.coupling := rfl
@[simp] theorem State.pool_setPool (s : State) (x : List Pulse) : (s.setPool x).pool = x := rfl
@[simp] theorem State.limit_setPool (s : State) (x : List Pulse) : (s.setPool x).limit = s.limit := rfl
@[simp] theorem State.mgmt_setPool (s : State) (x : List Pulse) : (s.setPool x).mgmt = s.mgmt := rfl
@[simp] theorem State.alerts_setPool (s : State) (x : List Pulse) : (s.setPool x).alerts = s.alerts := rfl
@[simp] theorem State.counters_setPool (s : State) (x : List Pulse) : (s.setPool x).counters = s.counters := rfl
@[simp] theorem State.capture_setPool (s : State) (x : List Pulse) : (s.setPool x).capture = s.capture := rfl
@[simp] theorem State.profile_setPool (s : State) (x : List Pulse) : (s.setPool x).profile = s.profile := rfl
@[simp] theorem State.startUp_setPool (s : State) (x : List Pulse) : (s.setPool x).startUp = s.startUp := rfl
@[simp] theorem State.pending_setPool (s : State) (x : List Pulse) : (s.setPool x).pending = s.pending := rfl

@[simp] theorem State.ports_setLimit (s : State) (x : LimitMonitor) : (s.setLimit x).ports = s.ports := rfl
@[simp] theorem State.slots_setLimit (s : State) (x : LimitMonitor) : (s.setLimit x).slots = s.slots := rfl
@[simp] theorem State.intake_setLimit (s : State) (x : LimitMonitor) : (s.setLimit x).intake = s.intake := rfl
@[simp] theorem State.banks_setLimit (s : State) (x : LimitMonitor) : (s.setLimit x).banks = s.banks := rfl
@[simp] theorem State.coupling_setLimit (s : State) (x : LimitMonitor) : (s.setLimit x).coupling = s.coupling := rfl
@[simp] theorem State.pool_setLimit (s : State) (x : LimitMonitor) : (s.setLimit x).pool = s.pool := rfl
@[simp] theorem State.limit_setLimit (s : State) (x : LimitMonitor) : (s.setLimit x).limit = x := rfl
@[simp] theorem State.mgmt_setLimit (s : State) (x : LimitMonitor) : (s.setLimit x).mgmt = s.mgmt := rfl
@[simp] theorem State.alerts_setLimit (s : State) (x : LimitMonitor) : (s.setLimit x).alerts = s.alerts := rfl
@[simp] theorem State.counters_setLimit (s : State) (x : LimitMonitor) : (s.setLimit x).counters = s.counters := rfl
@[simp] theorem State.capture_setLimit (s : State) (x : LimitMonitor) : (s.setLimit x).capture = s.capture := rfl
@[simp] theorem State.profile_setLimit (s : State) (x : LimitMonitor) : (s.setLimit x).profile = s.profile := rfl
@[simp] theorem State.startUp_setLimit (s : State) (x : LimitMonitor) : (s.setLimit x).startUp = s.startUp := rfl
@[simp] theorem State.pending_setLimit (s : State) (x : LimitMonitor) : (s.setLimit x).pending = s.pending := rfl

@[simp] theorem State.ports_setMgmt (s : State) (x : Management) : (s.setMgmt x).ports = s.ports := rfl
@[simp] theorem State.slots_setMgmt (s : State) (x : Management) : (s.setMgmt x).slots = s.slots := rfl
@[simp] theorem State.intake_setMgmt (s : State) (x : Management) : (s.setMgmt x).intake = s.intake := rfl
@[simp] theorem State.banks_setMgmt (s : State) (x : Management) : (s.setMgmt x).banks = s.banks := rfl
@[simp] theorem State.coupling_setMgmt (s : State) (x : Management) : (s.setMgmt x).coupling = s.coupling := rfl
@[simp] theorem State.pool_setMgmt (s : State) (x : Management) : (s.setMgmt x).pool = s.pool := rfl
@[simp] theorem State.limit_setMgmt (s : State) (x : Management) : (s.setMgmt x).limit = s.limit := rfl
@[simp] theorem State.mgmt_setMgmt (s : State) (x : Management) : (s.setMgmt x).mgmt = x := rfl
@[simp] theorem State.alerts_setMgmt (s : State) (x : Management) : (s.setMgmt x).alerts = s.alerts := rfl
@[simp] theorem State.counters_setMgmt (s : State) (x : Management) : (s.setMgmt x).counters = s.counters := rfl
@[simp] theorem State.capture_setMgmt (s : State) (x : Management) : (s.setMgmt x).capture = s.capture := rfl
@[simp] theorem State.profile_setMgmt (s : State) (x : Management) : (s.setMgmt x).profile = s.profile := rfl
@[simp] theorem State.startUp_setMgmt (s : State) (x : Management) : (s.setMgmt x).startUp = s.startUp := rfl
@[simp] theorem State.pending_setMgmt (s : State) (x : Management) : (s.setMgmt x).pending = s.pending := rfl

@[simp] theorem State.ports_setAlerts (s : State) (x : AlertUnit) : (s.setAlerts x).ports = s.ports := rfl
@[simp] theorem State.slots_setAlerts (s : State) (x : AlertUnit) : (s.setAlerts x).slots = s.slots := rfl
@[simp] theorem State.intake_setAlerts (s : State) (x : AlertUnit) : (s.setAlerts x).intake = s.intake := rfl
@[simp] theorem State.banks_setAlerts (s : State) (x : AlertUnit) : (s.setAlerts x).banks = s.banks := rfl
@[simp] theorem State.coupling_setAlerts (s : State) (x : AlertUnit) : (s.setAlerts x).coupling = s.coupling := rfl
@[simp] theorem State.pool_setAlerts (s : State) (x : AlertUnit) : (s.setAlerts x).pool = s.pool := rfl
@[simp] theorem State.limit_setAlerts (s : State) (x : AlertUnit) : (s.setAlerts x).limit = s.limit := rfl
@[simp] theorem State.mgmt_setAlerts (s : State) (x : AlertUnit) : (s.setAlerts x).mgmt = s.mgmt := rfl
@[simp] theorem State.alerts_setAlerts (s : State) (x : AlertUnit) : (s.setAlerts x).alerts = x := rfl
@[simp] theorem State.counters_setAlerts (s : State) (x : AlertUnit) : (s.setAlerts x).counters = s.counters := rfl
@[simp] theorem State.capture_setAlerts (s : State) (x : AlertUnit) : (s.setAlerts x).capture = s.capture := rfl
@[simp] theorem State.profile_setAlerts (s : State) (x : AlertUnit) : (s.setAlerts x).profile = s.profile := rfl
@[simp] theorem State.startUp_setAlerts (s : State) (x : AlertUnit) : (s.setAlerts x).startUp = s.startUp := rfl
@[simp] theorem State.pending_setAlerts (s : State) (x : AlertUnit) : (s.setAlerts x).pending = s.pending := rfl

@[simp] theorem State.ports_setCounters (s : State) (x : Vector Word 10) : (s.setCounters x).ports = s.ports := rfl
@[simp] theorem State.slots_setCounters (s : State) (x : Vector Word 10) : (s.setCounters x).slots = s.slots := rfl
@[simp] theorem State.intake_setCounters (s : State) (x : Vector Word 10) : (s.setCounters x).intake = s.intake := rfl
@[simp] theorem State.banks_setCounters (s : State) (x : Vector Word 10) : (s.setCounters x).banks = s.banks := rfl
@[simp] theorem State.coupling_setCounters (s : State) (x : Vector Word 10) : (s.setCounters x).coupling = s.coupling := rfl
@[simp] theorem State.pool_setCounters (s : State) (x : Vector Word 10) : (s.setCounters x).pool = s.pool := rfl
@[simp] theorem State.limit_setCounters (s : State) (x : Vector Word 10) : (s.setCounters x).limit = s.limit := rfl
@[simp] theorem State.mgmt_setCounters (s : State) (x : Vector Word 10) : (s.setCounters x).mgmt = s.mgmt := rfl
@[simp] theorem State.alerts_setCounters (s : State) (x : Vector Word 10) : (s.setCounters x).alerts = s.alerts := rfl
@[simp] theorem State.counters_setCounters (s : State) (x : Vector Word 10) : (s.setCounters x).counters = x := rfl
@[simp] theorem State.capture_setCounters (s : State) (x : Vector Word 10) : (s.setCounters x).capture = s.capture := rfl
@[simp] theorem State.profile_setCounters (s : State) (x : Vector Word 10) : (s.setCounters x).profile = s.profile := rfl
@[simp] theorem State.startUp_setCounters (s : State) (x : Vector Word 10) : (s.setCounters x).startUp = s.startUp := rfl
@[simp] theorem State.pending_setCounters (s : State) (x : Vector Word 10) : (s.setCounters x).pending = s.pending := rfl

@[simp] theorem State.ports_setCapture (s : State) (x : Capture) : (s.setCapture x).ports = s.ports := rfl
@[simp] theorem State.slots_setCapture (s : State) (x : Capture) : (s.setCapture x).slots = s.slots := rfl
@[simp] theorem State.intake_setCapture (s : State) (x : Capture) : (s.setCapture x).intake = s.intake := rfl
@[simp] theorem State.banks_setCapture (s : State) (x : Capture) : (s.setCapture x).banks = s.banks := rfl
@[simp] theorem State.coupling_setCapture (s : State) (x : Capture) : (s.setCapture x).coupling = s.coupling := rfl
@[simp] theorem State.pool_setCapture (s : State) (x : Capture) : (s.setCapture x).pool = s.pool := rfl
@[simp] theorem State.limit_setCapture (s : State) (x : Capture) : (s.setCapture x).limit = s.limit := rfl
@[simp] theorem State.mgmt_setCapture (s : State) (x : Capture) : (s.setCapture x).mgmt = s.mgmt := rfl
@[simp] theorem State.alerts_setCapture (s : State) (x : Capture) : (s.setCapture x).alerts = s.alerts := rfl
@[simp] theorem State.counters_setCapture (s : State) (x : Capture) : (s.setCapture x).counters = s.counters := rfl
@[simp] theorem State.capture_setCapture (s : State) (x : Capture) : (s.setCapture x).capture = x := rfl
@[simp] theorem State.profile_setCapture (s : State) (x : Capture) : (s.setCapture x).profile = s.profile := rfl
@[simp] theorem State.startUp_setCapture (s : State) (x : Capture) : (s.setCapture x).startUp = s.startUp := rfl
@[simp] theorem State.pending_setCapture (s : State) (x : Capture) : (s.setCapture x).pending = s.pending := rfl

@[simp] theorem State.ports_setProfile (s : State) (x : ProfileStore) : (s.setProfile x).ports = s.ports := rfl
@[simp] theorem State.slots_setProfile (s : State) (x : ProfileStore) : (s.setProfile x).slots = s.slots := rfl
@[simp] theorem State.intake_setProfile (s : State) (x : ProfileStore) : (s.setProfile x).intake = s.intake := rfl
@[simp] theorem State.banks_setProfile (s : State) (x : ProfileStore) : (s.setProfile x).banks = s.banks := rfl
@[simp] theorem State.coupling_setProfile (s : State) (x : ProfileStore) : (s.setProfile x).coupling = s.coupling := rfl
@[simp] theorem State.pool_setProfile (s : State) (x : ProfileStore) : (s.setProfile x).pool = s.pool := rfl
@[simp] theorem State.limit_setProfile (s : State) (x : ProfileStore) : (s.setProfile x).limit = s.limit := rfl
@[simp] theorem State.mgmt_setProfile (s : State) (x : ProfileStore) : (s.setProfile x).mgmt = s.mgmt := rfl
@[simp] theorem State.alerts_setProfile (s : State) (x : ProfileStore) : (s.setProfile x).alerts = s.alerts := rfl
@[simp] theorem State.counters_setProfile (s : State) (x : ProfileStore) : (s.setProfile x).counters = s.counters := rfl
@[simp] theorem State.capture_setProfile (s : State) (x : ProfileStore) : (s.setProfile x).capture = s.capture := rfl
@[simp] theorem State.profile_setProfile (s : State) (x : ProfileStore) : (s.setProfile x).profile = x := rfl
@[simp] theorem State.startUp_setProfile (s : State) (x : ProfileStore) : (s.setProfile x).startUp = s.startUp := rfl
@[simp] theorem State.pending_setProfile (s : State) (x : ProfileStore) : (s.setProfile x).pending = s.pending := rfl

@[simp] theorem State.ports_setStartUp (s : State) (x : StartUp) : (s.setStartUp x).ports = s.ports := rfl
@[simp] theorem State.slots_setStartUp (s : State) (x : StartUp) : (s.setStartUp x).slots = s.slots := rfl
@[simp] theorem State.intake_setStartUp (s : State) (x : StartUp) : (s.setStartUp x).intake = s.intake := rfl
@[simp] theorem State.banks_setStartUp (s : State) (x : StartUp) : (s.setStartUp x).banks = s.banks := rfl
@[simp] theorem State.coupling_setStartUp (s : State) (x : StartUp) : (s.setStartUp x).coupling = s.coupling := rfl
@[simp] theorem State.pool_setStartUp (s : State) (x : StartUp) : (s.setStartUp x).pool = s.pool := rfl
@[simp] theorem State.limit_setStartUp (s : State) (x : StartUp) : (s.setStartUp x).limit = s.limit := rfl
@[simp] theorem State.mgmt_setStartUp (s : State) (x : StartUp) : (s.setStartUp x).mgmt = s.mgmt := rfl
@[simp] theorem State.alerts_setStartUp (s : State) (x : StartUp) : (s.setStartUp x).alerts = s.alerts := rfl
@[simp] theorem State.counters_setStartUp (s : State) (x : StartUp) : (s.setStartUp x).counters = s.counters := rfl
@[simp] theorem State.capture_setStartUp (s : State) (x : StartUp) : (s.setStartUp x).capture = s.capture := rfl
@[simp] theorem State.profile_setStartUp (s : State) (x : StartUp) : (s.setStartUp x).profile = s.profile := rfl
@[simp] theorem State.startUp_setStartUp (s : State) (x : StartUp) : (s.setStartUp x).startUp = x := rfl
@[simp] theorem State.pending_setStartUp (s : State) (x : StartUp) : (s.setStartUp x).pending = s.pending := rfl

@[simp] theorem State.ports_setPending (s : State) (x : List Instr) : (s.setPending x).ports = s.ports := rfl
@[simp] theorem State.slots_setPending (s : State) (x : List Instr) : (s.setPending x).slots = s.slots := rfl
@[simp] theorem State.intake_setPending (s : State) (x : List Instr) : (s.setPending x).intake = s.intake := rfl
@[simp] theorem State.banks_setPending (s : State) (x : List Instr) : (s.setPending x).banks = s.banks := rfl
@[simp] theorem State.coupling_setPending (s : State) (x : List Instr) : (s.setPending x).coupling = s.coupling := rfl
@[simp] theorem State.pool_setPending (s : State) (x : List Instr) : (s.setPending x).pool = s.pool := rfl
@[simp] theorem State.limit_setPending (s : State) (x : List Instr) : (s.setPending x).limit = s.limit := rfl
@[simp] theorem State.mgmt_setPending (s : State) (x : List Instr) : (s.setPending x).mgmt = s.mgmt := rfl
@[simp] theorem State.alerts_setPending (s : State) (x : List Instr) : (s.setPending x).alerts = s.alerts := rfl
@[simp] theorem State.counters_setPending (s : State) (x : List Instr) : (s.setPending x).counters = s.counters := rfl
@[simp] theorem State.capture_setPending (s : State) (x : List Instr) : (s.setPending x).capture = s.capture := rfl
@[simp] theorem State.profile_setPending (s : State) (x : List Instr) : (s.setPending x).profile = s.profile := rfl
@[simp] theorem State.startUp_setPending (s : State) (x : List Instr) : (s.setPending x).startUp = s.startUp := rfl
@[simp] theorem State.pending_setPending (s : State) (x : List Instr) : (s.setPending x).pending = x := rfl

end Sys2Proof.Machine
end

