-- ==== Sys2Proof/Laws/Ops.lean ====
section
/-! SUPPORT. What each shared operation leaves as it was, and what it writes. -/

namespace Sys2Proof.Machine

@[simp] theorem raiseAlert_ports (a : AlertSource) (s : State) : (raiseAlert a s).ports = s.ports := rfl
@[simp] theorem raiseAlert_slots (a : AlertSource) (s : State) : (raiseAlert a s).slots = s.slots := rfl
@[simp] theorem raiseAlert_intake (a : AlertSource) (s : State) : (raiseAlert a s).intake = s.intake := rfl
@[simp] theorem raiseAlert_banks (a : AlertSource) (s : State) : (raiseAlert a s).banks = s.banks := rfl
@[simp] theorem raiseAlert_coupling (a : AlertSource) (s : State) : (raiseAlert a s).coupling = s.coupling := rfl
@[simp] theorem raiseAlert_pool (a : AlertSource) (s : State) : (raiseAlert a s).pool = s.pool := rfl
@[simp] theorem raiseAlert_limit (a : AlertSource) (s : State) : (raiseAlert a s).limit = s.limit := rfl
@[simp] theorem raiseAlert_mgmt (a : AlertSource) (s : State) : (raiseAlert a s).mgmt = s.mgmt := rfl
@[simp] theorem raiseAlert_counters (a : AlertSource) (s : State) : (raiseAlert a s).counters = s.counters := rfl
@[simp] theorem raiseAlert_capture (a : AlertSource) (s : State) : (raiseAlert a s).capture = s.capture := rfl
@[simp] theorem raiseAlert_profile (a : AlertSource) (s : State) : (raiseAlert a s).profile = s.profile := rfl
@[simp] theorem raiseAlert_startUp (a : AlertSource) (s : State) : (raiseAlert a s).startUp = s.startUp := rfl
@[simp] theorem raiseAlert_pending (a : AlertSource) (s : State) : (raiseAlert a s).pending = s.pending := rfl

/-- Raising a source makes it pending and leaves every other source and the Alert Map (R163). -/
theorem raiseAlert_spec (a : AlertSource) (s : State) :
    (raiseAlert a s).alerts.map = s.alerts.map ∧
    (raiseAlert a s).alerts.pending = s.alerts.pending ||| (1 <<< (sourceNumber a).val) := ⟨rfl, rfl⟩

@[simp] theorem raiseIf_ports (b : Bool) (a : AlertSource) (s : State) : (raiseIf b a s).ports = s.ports := by unfold raiseIf; split <;> rfl
@[simp] theorem raiseIf_slots (b : Bool) (a : AlertSource) (s : State) : (raiseIf b a s).slots = s.slots := by unfold raiseIf; split <;> rfl
@[simp] theorem raiseIf_intake (b : Bool) (a : AlertSource) (s : State) : (raiseIf b a s).intake = s.intake := by unfold raiseIf; split <;> rfl
@[simp] theorem raiseIf_banks (b : Bool) (a : AlertSource) (s : State) : (raiseIf b a s).banks = s.banks := by unfold raiseIf; split <;> rfl
@[simp] theorem raiseIf_coupling (b : Bool) (a : AlertSource) (s : State) : (raiseIf b a s).coupling = s.coupling := by unfold raiseIf; split <;> rfl
@[simp] theorem raiseIf_pool (b : Bool) (a : AlertSource) (s : State) : (raiseIf b a s).pool = s.pool := by unfold raiseIf; split <;> rfl
@[simp] theorem raiseIf_limit (b : Bool) (a : AlertSource) (s : State) : (raiseIf b a s).limit = s.limit := by unfold raiseIf; split <;> rfl
@[simp] theorem raiseIf_mgmt (b : Bool) (a : AlertSource) (s : State) : (raiseIf b a s).mgmt = s.mgmt := by unfold raiseIf; split <;> rfl
@[simp] theorem raiseIf_counters (b : Bool) (a : AlertSource) (s : State) : (raiseIf b a s).counters = s.counters := by unfold raiseIf; split <;> rfl
@[simp] theorem raiseIf_capture (b : Bool) (a : AlertSource) (s : State) : (raiseIf b a s).capture = s.capture := by unfold raiseIf; split <;> rfl
@[simp] theorem raiseIf_profile (b : Bool) (a : AlertSource) (s : State) : (raiseIf b a s).profile = s.profile := by unfold raiseIf; split <;> rfl
@[simp] theorem raiseIf_startUp (b : Bool) (a : AlertSource) (s : State) : (raiseIf b a s).startUp = s.startUp := by unfold raiseIf; split <;> rfl
@[simp] theorem raiseIf_pending (b : Bool) (a : AlertSource) (s : State) : (raiseIf b a s).pending = s.pending := by unfold raiseIf; split <;> rfl

@[simp] theorem raiseIf_map (b : Bool) (a : AlertSource) (s : State) : (raiseIf b a s).alerts.map = s.alerts.map := by
  unfold raiseIf; split <;> rfl

@[simp] theorem raiseIf_true (a : AlertSource) (s : State) : raiseIf true a s = raiseAlert a s := rfl

@[simp] theorem raiseIf_false (a : AlertSource) (s : State) : raiseIf false a s = s := rfl

@[simp] theorem bump_ports (c : CounterId) (n : Nat) (s : State) : (bump c n s).ports = s.ports := rfl
@[simp] theorem bump_slots (c : CounterId) (n : Nat) (s : State) : (bump c n s).slots = s.slots := rfl
@[simp] theorem bump_intake (c : CounterId) (n : Nat) (s : State) : (bump c n s).intake = s.intake := rfl
@[simp] theorem bump_banks (c : CounterId) (n : Nat) (s : State) : (bump c n s).banks = s.banks := rfl
@[simp] theorem bump_coupling (c : CounterId) (n : Nat) (s : State) : (bump c n s).coupling = s.coupling := rfl
@[simp] theorem bump_pool (c : CounterId) (n : Nat) (s : State) : (bump c n s).pool = s.pool := rfl
@[simp] theorem bump_limit (c : CounterId) (n : Nat) (s : State) : (bump c n s).limit = s.limit := rfl
@[simp] theorem bump_mgmt (c : CounterId) (n : Nat) (s : State) : (bump c n s).mgmt = s.mgmt := rfl
@[simp] theorem bump_alerts (c : CounterId) (n : Nat) (s : State) : (bump c n s).alerts = s.alerts := rfl
@[simp] theorem bump_capture (c : CounterId) (n : Nat) (s : State) : (bump c n s).capture = s.capture := rfl
@[simp] theorem bump_profile (c : CounterId) (n : Nat) (s : State) : (bump c n s).profile = s.profile := rfl
@[simp] theorem bump_startUp (c : CounterId) (n : Nat) (s : State) : (bump c n s).startUp = s.startUp := rfl
@[simp] theorem bump_pending (c : CounterId) (n : Nat) (s : State) : (bump c n s).pending = s.pending := rfl

/-- An increment writes one counter, which holds at 65,535 (R168). -/
theorem bump_spec (c : CounterId) (n : Nat) (s : State) :
    (bump c n s).counters = s.counters.set (counterItem c) (countUp s.counters[counterItem c] n) := rfl

@[simp] theorem giveHole_ports (j : Word) (s : State) : (giveHole j s).ports = s.ports := by simp [giveHole]
@[simp] theorem giveHole_slots (j : Word) (s : State) : (giveHole j s).slots = s.slots := by simp [giveHole]
@[simp] theorem giveHole_banks (j : Word) (s : State) : (giveHole j s).banks = s.banks := by simp [giveHole]
@[simp] theorem giveHole_coupling (j : Word) (s : State) : (giveHole j s).coupling = s.coupling := by simp [giveHole]
@[simp] theorem giveHole_pool (j : Word) (s : State) : (giveHole j s).pool = s.pool := by simp [giveHole]
@[simp] theorem giveHole_limit (j : Word) (s : State) : (giveHole j s).limit = s.limit := by simp [giveHole]
@[simp] theorem giveHole_mgmt (j : Word) (s : State) : (giveHole j s).mgmt = s.mgmt := by simp [giveHole]
@[simp] theorem giveHole_alerts (j : Word) (s : State) : (giveHole j s).alerts = s.alerts := by simp [giveHole]
@[simp] theorem giveHole_capture (j : Word) (s : State) : (giveHole j s).capture = s.capture := by simp [giveHole]
@[simp] theorem giveHole_profile (j : Word) (s : State) : (giveHole j s).profile = s.profile := by simp [giveHole]
@[simp] theorem giveHole_startUp (j : Word) (s : State) : (giveHole j s).startUp = s.startUp := by simp [giveHole]
@[simp] theorem giveHole_pending (j : Word) (s : State) : (giveHole j s).pending = s.pending := by simp [giveHole]

/-- A hole hand-off puts a hole at age 0 of every history and makes its number the head (R38, R40). -/
theorem giveHole_spec (j : Word) (s : State) :
    (giveHole j s).intake = { history := Vector.ofFn fun t : Fin 64 => pushEntry s.intake.history[t] none, head := some j } := by
  simp [giveHole]

@[simp] theorem flushSlot_ports (t : Slot) (s : State) : (flushSlot t s).ports = s.ports := rfl
@[simp] theorem flushSlot_slots (t : Slot) (s : State) : (flushSlot t s).slots = s.slots := rfl
@[simp] theorem flushSlot_banks (t : Slot) (s : State) : (flushSlot t s).banks = s.banks := rfl
@[simp] theorem flushSlot_coupling (t : Slot) (s : State) : (flushSlot t s).coupling = s.coupling := rfl
@[simp] theorem flushSlot_pool (t : Slot) (s : State) : (flushSlot t s).pool = s.pool := rfl
@[simp] theorem flushSlot_limit (t : Slot) (s : State) : (flushSlot t s).limit = s.limit := rfl
@[simp] theorem flushSlot_mgmt (t : Slot) (s : State) : (flushSlot t s).mgmt = s.mgmt := rfl
@[simp] theorem flushSlot_alerts (t : Slot) (s : State) : (flushSlot t s).alerts = s.alerts := rfl
@[simp] theorem flushSlot_counters (t : Slot) (s : State) : (flushSlot t s).counters = s.counters := rfl
@[simp] theorem flushSlot_capture (t : Slot) (s : State) : (flushSlot t s).capture = s.capture := rfl
@[simp] theorem flushSlot_profile (t : Slot) (s : State) : (flushSlot t s).profile = s.profile := rfl
@[simp] theorem flushSlot_startUp (t : Slot) (s : State) : (flushSlot t s).startUp = s.startUp := rfl
@[simp] theorem flushSlot_pending (t : Slot) (s : State) : (flushSlot t s).pending = s.pending := rfl

@[simp] theorem flushAll_ports (s : State) : (flushAll s).ports = s.ports := rfl
@[simp] theorem flushAll_slots (s : State) : (flushAll s).slots = s.slots := rfl
@[simp] theorem flushAll_banks (s : State) : (flushAll s).banks = s.banks := rfl
@[simp] theorem flushAll_coupling (s : State) : (flushAll s).coupling = s.coupling := rfl
@[simp] theorem flushAll_pool (s : State) : (flushAll s).pool = s.pool := rfl
@[simp] theorem flushAll_limit (s : State) : (flushAll s).limit = s.limit := rfl
@[simp] theorem flushAll_mgmt (s : State) : (flushAll s).mgmt = s.mgmt := rfl
@[simp] theorem flushAll_alerts (s : State) : (flushAll s).alerts = s.alerts := rfl
@[simp] theorem flushAll_counters (s : State) : (flushAll s).counters = s.counters := rfl
@[simp] theorem flushAll_capture (s : State) : (flushAll s).capture = s.capture := rfl
@[simp] theorem flushAll_profile (s : State) : (flushAll s).profile = s.profile := rfl
@[simp] theorem flushAll_startUp (s : State) : (flushAll s).startUp = s.startUp := rfl
@[simp] theorem flushAll_pending (s : State) : (flushAll s).pending = s.pending := rfl

@[simp] theorem removePulse_ports (t : Slot) (s : State) : (removePulse t s).ports = s.ports := rfl
@[simp] theorem removePulse_slots (t : Slot) (s : State) : (removePulse t s).slots = s.slots := rfl
@[simp] theorem removePulse_intake (t : Slot) (s : State) : (removePulse t s).intake = s.intake := rfl
@[simp] theorem removePulse_banks (t : Slot) (s : State) : (removePulse t s).banks = s.banks := rfl
@[simp] theorem removePulse_coupling (t : Slot) (s : State) : (removePulse t s).coupling = s.coupling := rfl
@[simp] theorem removePulse_limit (t : Slot) (s : State) : (removePulse t s).limit = s.limit := rfl
@[simp] theorem removePulse_mgmt (t : Slot) (s : State) : (removePulse t s).mgmt = s.mgmt := rfl
@[simp] theorem removePulse_alerts (t : Slot) (s : State) : (removePulse t s).alerts = s.alerts := rfl
@[simp] theorem removePulse_counters (t : Slot) (s : State) : (removePulse t s).counters = s.counters := rfl
@[simp] theorem removePulse_capture (t : Slot) (s : State) : (removePulse t s).capture = s.capture := rfl
@[simp] theorem removePulse_profile (t : Slot) (s : State) : (removePulse t s).profile = s.profile := rfl
@[simp] theorem removePulse_startUp (t : Slot) (s : State) : (removePulse t s).startUp = s.startUp := rfl
@[simp] theorem removePulse_pending (t : Slot) (s : State) : (removePulse t s).pending = s.pending := rfl

@[simp] theorem detachSlot_ports (t : Slot) (s : State) : (detachSlot t s).ports = s.ports := rfl
@[simp] theorem detachSlot_banks (t : Slot) (s : State) : (detachSlot t s).banks = s.banks := rfl
@[simp] theorem detachSlot_coupling (t : Slot) (s : State) : (detachSlot t s).coupling = s.coupling := rfl
@[simp] theorem detachSlot_limit (t : Slot) (s : State) : (detachSlot t s).limit = s.limit := rfl
@[simp] theorem detachSlot_mgmt (t : Slot) (s : State) : (detachSlot t s).mgmt = s.mgmt := rfl
@[simp] theorem detachSlot_counters (t : Slot) (s : State) : (detachSlot t s).counters = s.counters := rfl
@[simp] theorem detachSlot_capture (t : Slot) (s : State) : (detachSlot t s).capture = s.capture := rfl
@[simp] theorem detachSlot_profile (t : Slot) (s : State) : (detachSlot t s).profile = s.profile := rfl
@[simp] theorem detachSlot_startUp (t : Slot) (s : State) : (detachSlot t s).startUp = s.startUp := rfl
@[simp] theorem detachSlot_pending (t : Slot) (s : State) : (detachSlot t s).pending = s.pending := rfl

/-- A detach: record, history and pulse instance of the slot, and SLED_CHANGED (R31). -/
theorem detachSlot_spec (t : Slot) (s : State) :
    (detachSlot t s).slots = { s.slots with records := s.slots.records.set t SlotRecord.initial } ∧
    (detachSlot t s).intake = { s.intake with history := s.intake.history.set t History.holes } ∧
    (detachSlot t s).pool = s.pool.filter (fun q => q.source != t) ∧
    (detachSlot t s).alerts = { s.alerts with pending := s.alerts.pending ||| (1 <<< 12) } := ⟨rfl, rfl, rfl, rfl⟩

@[simp] theorem renewLeases_ports (r : Request) (s : State) : (renewLeases r s).ports = s.ports := rfl
@[simp] theorem renewLeases_slots (r : Request) (s : State) : (renewLeases r s).slots = s.slots := rfl
@[simp] theorem renewLeases_intake (r : Request) (s : State) : (renewLeases r s).intake = s.intake := rfl
@[simp] theorem renewLeases_banks (r : Request) (s : State) : (renewLeases r s).banks = s.banks := rfl
@[simp] theorem renewLeases_coupling (r : Request) (s : State) : (renewLeases r s).coupling = s.coupling := rfl
@[simp] theorem renewLeases_pool (r : Request) (s : State) : (renewLeases r s).pool = s.pool := rfl
@[simp] theorem renewLeases_limit (r : Request) (s : State) : (renewLeases r s).limit = s.limit := rfl
@[simp] theorem renewLeases_alerts (r : Request) (s : State) : (renewLeases r s).alerts = s.alerts := rfl
@[simp] theorem renewLeases_counters (r : Request) (s : State) : (renewLeases r s).counters = s.counters := rfl
@[simp] theorem renewLeases_capture (r : Request) (s : State) : (renewLeases r s).capture = s.capture := rfl
@[simp] theorem renewLeases_profile (r : Request) (s : State) : (renewLeases r s).profile = s.profile := rfl
@[simp] theorem renewLeases_startUp (r : Request) (s : State) : (renewLeases r s).startUp = s.startUp := rfl
@[simp] theorem renewLeases_pending (r : Request) (s : State) : (renewLeases r s).pending = s.pending := rfl

@[simp] theorem renewLeases_queue (r : Request) (s : State) : (renewLeases r s).mgmt.queue = s.mgmt.queue := rfl

@[simp] theorem renewLeases_contexts (r : Request) (s : State) : (renewLeases r s).mgmt.contexts = s.mgmt.contexts := rfl

/-- Renewing changes a lease count at most: who holds a domain stays (R158). -/
theorem isHolder_renewLease (r q : Request) (h : Option Holder) : isHolder q (renewLease r h) = isHolder q h := by
  unfold renewLease
  cases h with
  | none => simp
  | some h => split <;> simp [isHolder]

/-- A renewal frees no domain and gives none a holder. -/
theorem renewLease_eq_none (r : Request) (h : Option Holder) : renewLease r h = none ↔ h = none := by
  unfold renewLease; split <;> simp

@[simp] theorem lockOf_renewLeases (r : Request) (d : Domain) (s : State) :
    lockOf (renewLeases r s).mgmt.locks d = renewLease r (lockOf s.mgmt.locks d) := by cases d <;> rfl

@[simp] theorem holds_renewLeases (r q : Request) (d : Domain) (s : State) : holds q d (renewLeases r s) = holds q d s := by
  simp only [holds, lockOf_renewLeases, isHolder_renewLease]

@[simp] theorem setContext_ports (r : Request) (c : LoadContext) (s : State) : (setContext r c s).ports = s.ports := rfl
@[simp] theorem setContext_slots (r : Request) (c : LoadContext) (s : State) : (setContext r c s).slots = s.slots := rfl
@[simp] theorem setContext_intake (r : Request) (c : LoadContext) (s : State) : (setContext r c s).intake = s.intake := rfl
@[simp] theorem setContext_banks (r : Request) (c : LoadContext) (s : State) : (setContext r c s).banks = s.banks := rfl
@[simp] theorem setContext_coupling (r : Request) (c : LoadContext) (s : State) : (setContext r c s).coupling = s.coupling := rfl
@[simp] theorem setContext_pool (r : Request) (c : LoadContext) (s : State) : (setContext r c s).pool = s.pool := rfl
@[simp] theorem setContext_limit (r : Request) (c : LoadContext) (s : State) : (setContext r c s).limit = s.limit := rfl
@[simp] theorem setContext_alerts (r : Request) (c : LoadContext) (s : State) : (setContext r c s).alerts = s.alerts := rfl
@[simp] theorem setContext_counters (r : Request) (c : LoadContext) (s : State) : (setContext r c s).counters = s.counters := rfl
@[simp] theorem setContext_capture (r : Request) (c : LoadContext) (s : State) : (setContext r c s).capture = s.capture := rfl
@[simp] theorem setContext_profile (r : Request) (c : LoadContext) (s : State) : (setContext r c s).profile = s.profile := rfl
@[simp] theorem setContext_startUp (r : Request) (c : LoadContext) (s : State) : (setContext r c s).startUp = s.startUp := rfl
@[simp] theorem setContext_pending (r : Request) (c : LoadContext) (s : State) : (setContext r c s).pending = s.pending := rfl

@[simp] theorem setContext_queue (r : Request) (c : LoadContext) (s : State) : (setContext r c s).mgmt.queue = s.mgmt.queue := rfl

@[simp] theorem setContext_locks (r : Request) (c : LoadContext) (s : State) : (setContext r c s).mgmt.locks = s.mgmt.locks := rfl

@[simp] theorem contextOf_renewLeases (r q : Request) (s : State) : contextOf q (renewLeases r s) = contextOf q s := rfl

@[simp] theorem enqueue_ports (code : Byte) (r : Request) (a : Reply) (s : State) : (enqueue code r a s).ports = s.ports := rfl
@[simp] theorem enqueue_slots (code : Byte) (r : Request) (a : Reply) (s : State) : (enqueue code r a s).slots = s.slots := rfl
@[simp] theorem enqueue_intake (code : Byte) (r : Request) (a : Reply) (s : State) : (enqueue code r a s).intake = s.intake := rfl
@[simp] theorem enqueue_banks (code : Byte) (r : Request) (a : Reply) (s : State) : (enqueue code r a s).banks = s.banks := rfl
@[simp] theorem enqueue_coupling (code : Byte) (r : Request) (a : Reply) (s : State) : (enqueue code r a s).coupling = s.coupling := rfl
@[simp] theorem enqueue_pool (code : Byte) (r : Request) (a : Reply) (s : State) : (enqueue code r a s).pool = s.pool := rfl
@[simp] theorem enqueue_limit (code : Byte) (r : Request) (a : Reply) (s : State) : (enqueue code r a s).limit = s.limit := rfl
@[simp] theorem enqueue_alerts (code : Byte) (r : Request) (a : Reply) (s : State) : (enqueue code r a s).alerts = s.alerts := rfl
@[simp] theorem enqueue_counters (code : Byte) (r : Request) (a : Reply) (s : State) : (enqueue code r a s).counters = s.counters := rfl
@[simp] theorem enqueue_capture (code : Byte) (r : Request) (a : Reply) (s : State) : (enqueue code r a s).capture = s.capture := rfl
@[simp] theorem enqueue_profile (code : Byte) (r : Request) (a : Reply) (s : State) : (enqueue code r a s).profile = s.profile := rfl
@[simp] theorem enqueue_startUp (code : Byte) (r : Request) (a : Reply) (s : State) : (enqueue code r a s).startUp = s.startUp := rfl
@[simp] theorem enqueue_pending (code : Byte) (r : Request) (a : Reply) (s : State) : (enqueue code r a s).pending = s.pending := rfl

@[simp] theorem enqueue_locks (code : Byte) (r : Request) (a : Reply) (s : State) : (enqueue code r a s).mgmt.locks = s.mgmt.locks := rfl

@[simp] theorem enqueue_contexts (code : Byte) (r : Request) (a : Reply) (s : State) :
    (enqueue code r a s).mgmt.contexts = s.mgmt.contexts := rfl

@[simp] theorem lockOf_setLock (l : LockTable) (d e : Domain) (h : Option Holder) :
    lockOf (setLock l d h) e = if e = d then h else lockOf l e := by cases d <;> cases e <;> rfl

@[simp] theorem liveBank_setStandby (u : BankUnit) (b : Bank) : liveBank (setStandby u b) = liveBank u := by
  cases u with
  | mk a b' l _ _ _ _ _ _ => cases l <;> rfl

@[simp] theorem standbyBank_setStandby (u : BankUnit) (b : Bank) : standbyBank (setStandby u b) = b := by
  cases u with
  | mk a b' l _ _ _ _ _ _ => cases l <;> rfl

/-- Writing the standby bank leaves the unit's other fields. -/
theorem setStandby_rest (u : BankUnit) (b : Bank) :
    (setStandby u b).liveId = u.liveId ∧ (setStandby u b).generation = u.generation ∧
    (setStandby u b).standbyCondition = u.standbyCondition ∧ (setStandby u b).engine = u.engine ∧
    (setStandby u b).progress = u.progress ∧ (setStandby u b).operation = u.operation ∧
    (setStandby u b).rejection = u.rejection := by
  cases u with
  | mk a b' l _ _ _ _ _ _ => cases l <;> exact ⟨rfl, rfl, rfl, rfl, rfl, rfl, rfl⟩

/-- A property of both banks holds after a standby write when it holds of the bank written. -/
theorem setStandby_banks (P : Bank → Prop) (u : BankUnit) (b : Bank) (ha : P u.bankA) (hb : P u.bankB) (h : P b) :
    P (setStandby u b).bankA ∧ P (setStandby u b).bankB := by
  cases u with
  | mk a b' l _ _ _ _ _ _ => cases l <;> simp_all [setStandby]

/-- The three ways a command cell addressed to the part can go (R12). -/
theorem takeCommand_cases (code : Byte) (r : Request) (d : State → State × Reply) (s : State) :
    (onLoop s = false ∧ takeCommand code r d s = s) ∨
    (onLoop s = true ∧ entryFree s = false ∧ takeCommand code r d s = bump .cmdDeclined 1 s) ∨
    (onLoop s = true ∧ entryFree s = true ∧
      takeCommand code r d s = enqueue code r (d (renewLeases r s)).2 (d (renewLeases r s)).1) := by
  unfold takeCommand answerCommand
  cases onLoop s <;> cases entryFree s <;> simp

/-- A taken command, written out. -/
theorem takeCommand_taken (code : Byte) (r : Request) (d : State → State × Reply) (s : State) (hl : onLoop s = true)
    (hq : entryFree s = true) :
    takeCommand code r d s = enqueue code r (d (renewLeases r s)).2 (d (renewLeases r s)).1 := by
  simp [takeCommand, answerCommand, hl, hq]

/-- A part of the state that the decision leaves is left by the whole command, if it is none of the locks, the queue and the
counters. -/
theorem takeCommand_keeps {α : Type} (g : State → α) (code : Byte) (r : Request) (d : State → State × Reply) (s : State)
    (hb : ∀ u, g (bump .cmdDeclined 1 u) = g u) (he : ∀ a u, g (enqueue code r a u) = g u)
    (hr : ∀ u, g (renewLeases r u) = g u) (hd : ∀ u, g (d u).1 = g u) : g (takeCommand code r d s) = g s := by
  rcases takeCommand_cases code r d s with ⟨_, h⟩ | ⟨_, _, h⟩ | ⟨_, _, h⟩ <;> rw [h]
  · exact hb s
  · rw [he, hd, hr]

/-- A property that every part of a command keeps is kept by the whole command. -/
theorem takeCommand_preserves (P : State → Prop) (code : Byte) (r : Request) (d : State → State × Reply) (s : State)
    (hs : P s) (hb : P (bump .cmdDeclined 1 s)) (hr : P (renewLeases r s)) (hd : ∀ u, P u → P (d u).1)
    (he : ∀ a u, P u → entryFree s = true → u.mgmt.queue = s.mgmt.queue → P (enqueue code r a u))
    (hq : ∀ u, (d u).1.mgmt.queue = u.mgmt.queue) : P (takeCommand code r d s) := by
  rcases takeCommand_cases code r d s with ⟨_, h⟩ | ⟨_, _, h⟩ | ⟨_, hf, h⟩ <;> rw [h]
  · exact hs
  · exact hb
  · exact he _ _ (hd _ hr) hf (by rw [hq]; rfl)

end Sys2Proof.Machine
end

