-- ==== Sys2Proof/Laws/Blocks.lean ====
section
/-! SUPPORT. What the blocks' reactions leave as it was. -/

namespace Sys2Proof.Machine

@[simp] theorem recordMiss_ports (b : Bool) (s : State) : (recordMiss b s).ports = s.ports := by unfold recordMiss; split <;> rfl
@[simp] theorem recordMiss_slots (b : Bool) (s : State) : (recordMiss b s).slots = s.slots := by unfold recordMiss; split <;> rfl
@[simp] theorem recordMiss_intake (b : Bool) (s : State) : (recordMiss b s).intake = s.intake := by unfold recordMiss; split <;> rfl
@[simp] theorem recordMiss_banks (b : Bool) (s : State) : (recordMiss b s).banks = s.banks := by unfold recordMiss; split <;> rfl
@[simp] theorem recordMiss_coupling (b : Bool) (s : State) : (recordMiss b s).coupling = s.coupling := by unfold recordMiss; split <;> rfl
@[simp] theorem recordMiss_pool (b : Bool) (s : State) : (recordMiss b s).pool = s.pool := by unfold recordMiss; split <;> rfl
@[simp] theorem recordMiss_limit (b : Bool) (s : State) : (recordMiss b s).limit = s.limit := by unfold recordMiss; split <;> rfl
@[simp] theorem recordMiss_mgmt (b : Bool) (s : State) : (recordMiss b s).mgmt = s.mgmt := by unfold recordMiss; split <;> rfl
@[simp] theorem recordMiss_capture (b : Bool) (s : State) : (recordMiss b s).capture = s.capture := by unfold recordMiss; split <;> rfl
@[simp] theorem recordMiss_profile (b : Bool) (s : State) : (recordMiss b s).profile = s.profile := by unfold recordMiss; split <;> rfl
@[simp] theorem recordMiss_startUp (b : Bool) (s : State) : (recordMiss b s).startUp = s.startUp := by unfold recordMiss; split <;> rfl
@[simp] theorem recordMiss_pending (b : Bool) (s : State) : (recordMiss b s).pending = s.pending := by unfold recordMiss; split <;> rfl

@[simp] theorem saturationResult_ports (t : Slot) (b : Bool) (s : State) : (saturationResult t b s).ports = s.ports := by simp [saturationResult]
@[simp] theorem saturationResult_slots (t : Slot) (b : Bool) (s : State) : (saturationResult t b s).slots = s.slots := by simp [saturationResult]
@[simp] theorem saturationResult_intake (t : Slot) (b : Bool) (s : State) : (saturationResult t b s).intake = s.intake := by simp [saturationResult]
@[simp] theorem saturationResult_banks (t : Slot) (b : Bool) (s : State) : (saturationResult t b s).banks = s.banks := by simp [saturationResult]
@[simp] theorem saturationResult_coupling (t : Slot) (b : Bool) (s : State) : (saturationResult t b s).coupling = s.coupling := by simp [saturationResult]
@[simp] theorem saturationResult_pool (t : Slot) (b : Bool) (s : State) : (saturationResult t b s).pool = s.pool := by simp [saturationResult]
@[simp] theorem saturationResult_mgmt (t : Slot) (b : Bool) (s : State) : (saturationResult t b s).mgmt = s.mgmt := by simp [saturationResult]
@[simp] theorem saturationResult_counters (t : Slot) (b : Bool) (s : State) : (saturationResult t b s).counters = s.counters := by simp [saturationResult]
@[simp] theorem saturationResult_capture (t : Slot) (b : Bool) (s : State) : (saturationResult t b s).capture = s.capture := by simp [saturationResult]
@[simp] theorem saturationResult_profile (t : Slot) (b : Bool) (s : State) : (saturationResult t b s).profile = s.profile := by simp [saturationResult]
@[simp] theorem saturationResult_startUp (t : Slot) (b : Bool) (s : State) : (saturationResult t b s).startUp = s.startUp := by simp [saturationResult]
@[simp] theorem saturationResult_pending (t : Slot) (b : Bool) (s : State) : (saturationResult t b s).pending = s.pending := by simp [saturationResult]

@[simp] theorem enterShock_ports (m : ChosenMode) (s : State) : (enterShock m s).ports = s.ports := rfl
@[simp] theorem enterShock_slots (m : ChosenMode) (s : State) : (enterShock m s).slots = s.slots := rfl
@[simp] theorem enterShock_intake (m : ChosenMode) (s : State) : (enterShock m s).intake = s.intake := rfl
@[simp] theorem enterShock_banks (m : ChosenMode) (s : State) : (enterShock m s).banks = s.banks := rfl
@[simp] theorem enterShock_coupling (m : ChosenMode) (s : State) : (enterShock m s).coupling = s.coupling := rfl
@[simp] theorem enterShock_pool (m : ChosenMode) (s : State) : (enterShock m s).pool = s.pool := rfl
@[simp] theorem enterShock_mgmt (m : ChosenMode) (s : State) : (enterShock m s).mgmt = s.mgmt := rfl
@[simp] theorem enterShock_capture (m : ChosenMode) (s : State) : (enterShock m s).capture = s.capture := rfl
@[simp] theorem enterShock_profile (m : ChosenMode) (s : State) : (enterShock m s).profile = s.profile := rfl
@[simp] theorem enterShock_startUp (m : ChosenMode) (s : State) : (enterShock m s).startUp = s.startUp := rfl
@[simp] theorem enterShock_pending (m : ChosenMode) (s : State) : (enterShock m s).pending = s.pending := rfl

@[simp] theorem exitShock_ports (s : State) : (exitShock s).ports = s.ports := rfl
@[simp] theorem exitShock_slots (s : State) : (exitShock s).slots = s.slots := rfl
@[simp] theorem exitShock_banks (s : State) : (exitShock s).banks = s.banks := rfl
@[simp] theorem exitShock_coupling (s : State) : (exitShock s).coupling = s.coupling := rfl
@[simp] theorem exitShock_pool (s : State) : (exitShock s).pool = s.pool := rfl
@[simp] theorem exitShock_mgmt (s : State) : (exitShock s).mgmt = s.mgmt := rfl
@[simp] theorem exitShock_counters (s : State) : (exitShock s).counters = s.counters := rfl
@[simp] theorem exitShock_capture (s : State) : (exitShock s).capture = s.capture := rfl
@[simp] theorem exitShock_profile (s : State) : (exitShock s).profile = s.profile := rfl
@[simp] theorem exitShock_startUp (s : State) : (exitShock s).startUp = s.startUp := rfl
@[simp] theorem exitShock_pending (s : State) : (exitShock s).pending = s.pending := rfl

@[simp] theorem limitBoundary_ports (n : Nat) (s : State) : (limitBoundary n s).ports = s.ports := by
  unfold limitBoundary; simp only []; (repeat' split) <;> rfl
@[simp] theorem limitBoundary_slots (n : Nat) (s : State) : (limitBoundary n s).slots = s.slots := by
  unfold limitBoundary; simp only []; (repeat' split) <;> rfl
@[simp] theorem limitBoundary_banks (n : Nat) (s : State) : (limitBoundary n s).banks = s.banks := by
  unfold limitBoundary; simp only []; (repeat' split) <;> rfl
@[simp] theorem limitBoundary_coupling (n : Nat) (s : State) : (limitBoundary n s).coupling = s.coupling := by
  unfold limitBoundary; simp only []; (repeat' split) <;> rfl
@[simp] theorem limitBoundary_pool (n : Nat) (s : State) : (limitBoundary n s).pool = s.pool := by
  unfold limitBoundary; simp only []; (repeat' split) <;> rfl
@[simp] theorem limitBoundary_mgmt (n : Nat) (s : State) : (limitBoundary n s).mgmt = s.mgmt := by
  unfold limitBoundary; simp only []; (repeat' split) <;> rfl
@[simp] theorem limitBoundary_capture (n : Nat) (s : State) : (limitBoundary n s).capture = s.capture := by
  unfold limitBoundary; simp only []; (repeat' split) <;> rfl
@[simp] theorem limitBoundary_profile (n : Nat) (s : State) : (limitBoundary n s).profile = s.profile := by
  unfold limitBoundary; simp only []; (repeat' split) <;> rfl
@[simp] theorem limitBoundary_startUp (n : Nat) (s : State) : (limitBoundary n s).startUp = s.startUp := by
  unfold limitBoundary; simp only []; (repeat' split) <;> rfl
@[simp] theorem limitBoundary_pending (n : Nat) (s : State) : (limitBoundary n s).pending = s.pending := by
  unfold limitBoundary; simp only []; (repeat' split) <;> rfl

@[simp] theorem validationStep_ports (s : State) : (validationStep s).ports = s.ports := by
  unfold validationStep; simp only []; (repeat' split) <;> rfl
@[simp] theorem validationStep_slots (s : State) : (validationStep s).slots = s.slots := by
  unfold validationStep; simp only []; (repeat' split) <;> rfl
@[simp] theorem validationStep_intake (s : State) : (validationStep s).intake = s.intake := by
  unfold validationStep; simp only []; (repeat' split) <;> rfl
@[simp] theorem validationStep_coupling (s : State) : (validationStep s).coupling = s.coupling := by
  unfold validationStep; simp only []; (repeat' split) <;> rfl
@[simp] theorem validationStep_pool (s : State) : (validationStep s).pool = s.pool := by
  unfold validationStep; simp only []; (repeat' split) <;> rfl
@[simp] theorem validationStep_limit (s : State) : (validationStep s).limit = s.limit := by
  unfold validationStep; simp only []; (repeat' split) <;> rfl
@[simp] theorem validationStep_mgmt (s : State) : (validationStep s).mgmt = s.mgmt := by
  unfold validationStep; simp only []; (repeat' split) <;> rfl
@[simp] theorem validationStep_counters (s : State) : (validationStep s).counters = s.counters := by
  unfold validationStep; simp only []; (repeat' split) <;> rfl
@[simp] theorem validationStep_capture (s : State) : (validationStep s).capture = s.capture := by
  unfold validationStep; simp only []; (repeat' split) <;> rfl
@[simp] theorem validationStep_profile (s : State) : (validationStep s).profile = s.profile := by
  unfold validationStep; simp only []; (repeat' split) <;> rfl
@[simp] theorem validationStep_startUp (s : State) : (validationStep s).startUp = s.startUp := by
  unfold validationStep; simp only []; (repeat' split) <;> rfl
@[simp] theorem validationStep_pending (s : State) : (validationStep s).pending = s.pending := by
  unfold validationStep; simp only []; (repeat' split) <;> rfl

@[simp] theorem swapBanks_ports (s : State) : (swapBanks s).ports = s.ports := rfl
@[simp] theorem swapBanks_slots (s : State) : (swapBanks s).slots = s.slots := rfl
@[simp] theorem swapBanks_intake (s : State) : (swapBanks s).intake = s.intake := rfl
@[simp] theorem swapBanks_coupling (s : State) : (swapBanks s).coupling = s.coupling := rfl
@[simp] theorem swapBanks_pool (s : State) : (swapBanks s).pool = s.pool := rfl
@[simp] theorem swapBanks_mgmt (s : State) : (swapBanks s).mgmt = s.mgmt := rfl
@[simp] theorem swapBanks_alerts (s : State) : (swapBanks s).alerts = s.alerts := rfl
@[simp] theorem swapBanks_counters (s : State) : (swapBanks s).counters = s.counters := rfl
@[simp] theorem swapBanks_capture (s : State) : (swapBanks s).capture = s.capture := rfl
@[simp] theorem swapBanks_profile (s : State) : (swapBanks s).profile = s.profile := rfl
@[simp] theorem swapBanks_startUp (s : State) : (swapBanks s).startUp = s.startUp := rfl
@[simp] theorem swapBanks_pending (s : State) : (swapBanks s).pending = s.pending := rfl

@[simp] theorem endCopy_ports (s : State) : (endCopy s).ports = s.ports := rfl
@[simp] theorem endCopy_slots (s : State) : (endCopy s).slots = s.slots := rfl
@[simp] theorem endCopy_intake (s : State) : (endCopy s).intake = s.intake := rfl
@[simp] theorem endCopy_coupling (s : State) : (endCopy s).coupling = s.coupling := rfl
@[simp] theorem endCopy_pool (s : State) : (endCopy s).pool = s.pool := rfl
@[simp] theorem endCopy_limit (s : State) : (endCopy s).limit = s.limit := rfl
@[simp] theorem endCopy_mgmt (s : State) : (endCopy s).mgmt = s.mgmt := rfl
@[simp] theorem endCopy_counters (s : State) : (endCopy s).counters = s.counters := rfl
@[simp] theorem endCopy_capture (s : State) : (endCopy s).capture = s.capture := rfl
@[simp] theorem endCopy_profile (s : State) : (endCopy s).profile = s.profile := rfl
@[simp] theorem endCopy_startUp (s : State) : (endCopy s).startUp = s.startUp := rfl
@[simp] theorem endCopy_pending (s : State) : (endCopy s).pending = s.pending := rfl

@[simp] theorem copyStep_ports (s : State) : (copyStep s).ports = s.ports := by
  unfold copyStep; simp only []; split <;> rfl
@[simp] theorem copyStep_slots (s : State) : (copyStep s).slots = s.slots := by
  unfold copyStep; simp only []; split <;> rfl
@[simp] theorem copyStep_intake (s : State) : (copyStep s).intake = s.intake := by
  unfold copyStep; simp only []; split <;> rfl
@[simp] theorem copyStep_coupling (s : State) : (copyStep s).coupling = s.coupling := by
  unfold copyStep; simp only []; split <;> rfl
@[simp] theorem copyStep_pool (s : State) : (copyStep s).pool = s.pool := by
  unfold copyStep; simp only []; split <;> rfl
@[simp] theorem copyStep_limit (s : State) : (copyStep s).limit = s.limit := by
  unfold copyStep; simp only []; split <;> rfl
@[simp] theorem copyStep_mgmt (s : State) : (copyStep s).mgmt = s.mgmt := by
  unfold copyStep; simp only []; split <;> rfl
@[simp] theorem copyStep_counters (s : State) : (copyStep s).counters = s.counters := by
  unfold copyStep; simp only []; split <;> rfl
@[simp] theorem copyStep_capture (s : State) : (copyStep s).capture = s.capture := by
  unfold copyStep; simp only []; split <;> rfl
@[simp] theorem copyStep_profile (s : State) : (copyStep s).profile = s.profile := by
  unfold copyStep; simp only []; split <;> rfl
@[simp] theorem copyStep_startUp (s : State) : (copyStep s).startUp = s.startUp := by
  unfold copyStep; simp only []; split <;> rfl
@[simp] theorem copyStep_pending (s : State) : (copyStep s).pending = s.pending := by
  unfold copyStep; simp only []; split <;> rfl

@[simp] theorem engineBoundary_ports (s : State) : (engineBoundary s).ports = s.ports := by
  unfold engineBoundary; split <;> simp
@[simp] theorem engineBoundary_slots (s : State) : (engineBoundary s).slots = s.slots := by
  unfold engineBoundary; split <;> simp
@[simp] theorem engineBoundary_intake (s : State) : (engineBoundary s).intake = s.intake := by
  unfold engineBoundary; split <;> simp
@[simp] theorem engineBoundary_coupling (s : State) : (engineBoundary s).coupling = s.coupling := by
  unfold engineBoundary; split <;> simp
@[simp] theorem engineBoundary_pool (s : State) : (engineBoundary s).pool = s.pool := by
  unfold engineBoundary; split <;> simp
@[simp] theorem engineBoundary_mgmt (s : State) : (engineBoundary s).mgmt = s.mgmt := by
  unfold engineBoundary; split <;> simp
@[simp] theorem engineBoundary_counters (s : State) : (engineBoundary s).counters = s.counters := by
  unfold engineBoundary; split <;> simp
@[simp] theorem engineBoundary_capture (s : State) : (engineBoundary s).capture = s.capture := by
  unfold engineBoundary; split <;> simp
@[simp] theorem engineBoundary_profile (s : State) : (engineBoundary s).profile = s.profile := by
  unfold engineBoundary; split <;> simp
@[simp] theorem engineBoundary_startUp (s : State) : (engineBoundary s).startUp = s.startUp := by
  unfold engineBoundary; split <;> simp
@[simp] theorem engineBoundary_pending (s : State) : (engineBoundary s).pending = s.pending := by
  unfold engineBoundary; split <;> simp

@[simp] theorem completeItems_ports (s : State) : (completeItems s).ports = s.ports := by
  unfold completeItems; simp only []; (repeat' split) <;> simp
@[simp] theorem completeItems_slots (s : State) : (completeItems s).slots = s.slots := by
  unfold completeItems; simp only []; (repeat' split) <;> simp
@[simp] theorem completeItems_intake (s : State) : (completeItems s).intake = s.intake := by
  unfold completeItems; simp only []; (repeat' split) <;> simp
@[simp] theorem completeItems_banks (s : State) : (completeItems s).banks = s.banks := by
  unfold completeItems; simp only []; (repeat' split) <;> simp
@[simp] theorem completeItems_coupling (s : State) : (completeItems s).coupling = s.coupling := by
  unfold completeItems; simp only []; (repeat' split) <;> simp
@[simp] theorem completeItems_pool (s : State) : (completeItems s).pool = s.pool := by
  unfold completeItems; simp only []; (repeat' split) <;> simp
@[simp] theorem completeItems_limit (s : State) : (completeItems s).limit = s.limit := by
  unfold completeItems; simp only []; (repeat' split) <;> simp
@[simp] theorem completeItems_mgmt (s : State) : (completeItems s).mgmt = s.mgmt := by
  unfold completeItems; simp only []; (repeat' split) <;> simp
@[simp] theorem completeItems_counters (s : State) : (completeItems s).counters = s.counters := by
  unfold completeItems; simp only []; (repeat' split) <;> simp
@[simp] theorem completeItems_profile (s : State) : (completeItems s).profile = s.profile := by
  unfold completeItems; simp only []; (repeat' split) <;> simp
@[simp] theorem completeItems_startUp (s : State) : (completeItems s).startUp = s.startUp := by
  unfold completeItems; simp only []; (repeat' split) <;> simp
@[simp] theorem completeItems_pending (s : State) : (completeItems s).pending = s.pending := by
  unfold completeItems; simp only []; (repeat' split) <;> simp

@[simp] theorem captureBoundary_ports (m : Word) (n : List NoticeReport) (b : Bool) (s : State) : (captureBoundary m n b s).ports = s.ports := by
  unfold captureBoundary; simp only []; (repeat' split) <;> simp
@[simp] theorem captureBoundary_slots (m : Word) (n : List NoticeReport) (b : Bool) (s : State) : (captureBoundary m n b s).slots = s.slots := by
  unfold captureBoundary; simp only []; (repeat' split) <;> simp
@[simp] theorem captureBoundary_intake (m : Word) (n : List NoticeReport) (b : Bool) (s : State) : (captureBoundary m n b s).intake = s.intake := by
  unfold captureBoundary; simp only []; (repeat' split) <;> simp
@[simp] theorem captureBoundary_banks (m : Word) (n : List NoticeReport) (b : Bool) (s : State) : (captureBoundary m n b s).banks = s.banks := by
  unfold captureBoundary; simp only []; (repeat' split) <;> simp
@[simp] theorem captureBoundary_coupling (m : Word) (n : List NoticeReport) (b : Bool) (s : State) : (captureBoundary m n b s).coupling = s.coupling := by
  unfold captureBoundary; simp only []; (repeat' split) <;> simp
@[simp] theorem captureBoundary_pool (m : Word) (n : List NoticeReport) (b : Bool) (s : State) : (captureBoundary m n b s).pool = s.pool := by
  unfold captureBoundary; simp only []; (repeat' split) <;> simp
@[simp] theorem captureBoundary_limit (m : Word) (n : List NoticeReport) (b : Bool) (s : State) : (captureBoundary m n b s).limit = s.limit := by
  unfold captureBoundary; simp only []; (repeat' split) <;> simp
@[simp] theorem captureBoundary_mgmt (m : Word) (n : List NoticeReport) (b : Bool) (s : State) : (captureBoundary m n b s).mgmt = s.mgmt := by
  unfold captureBoundary; simp only []; (repeat' split) <;> simp
@[simp] theorem captureBoundary_counters (m : Word) (n : List NoticeReport) (b : Bool) (s : State) : (captureBoundary m n b s).counters = s.counters := by
  unfold captureBoundary; simp only []; (repeat' split) <;> simp
@[simp] theorem captureBoundary_profile (m : Word) (n : List NoticeReport) (b : Bool) (s : State) : (captureBoundary m n b s).profile = s.profile := by
  unfold captureBoundary; simp only []; (repeat' split) <;> simp
@[simp] theorem captureBoundary_startUp (m : Word) (n : List NoticeReport) (b : Bool) (s : State) : (captureBoundary m n b s).startUp = s.startUp := by
  unfold captureBoundary; simp only []; (repeat' split) <;> simp
@[simp] theorem captureBoundary_pending (m : Word) (n : List NoticeReport) (b : Bool) (s : State) : (captureBoundary m n b s).pending = s.pending := by
  unfold captureBoundary; simp only []; (repeat' split) <;> simp

@[simp] theorem pulseBoundary_ports (m : Word) (n : List Notice) (s : State) : (pulseBoundary m n s).ports = s.ports := by simp [pulseBoundary]
@[simp] theorem pulseBoundary_slots (m : Word) (n : List Notice) (s : State) : (pulseBoundary m n s).slots = s.slots := by simp [pulseBoundary]
@[simp] theorem pulseBoundary_intake (m : Word) (n : List Notice) (s : State) : (pulseBoundary m n s).intake = s.intake := by simp [pulseBoundary]
@[simp] theorem pulseBoundary_banks (m : Word) (n : List Notice) (s : State) : (pulseBoundary m n s).banks = s.banks := by simp [pulseBoundary]
@[simp] theorem pulseBoundary_coupling (m : Word) (n : List Notice) (s : State) : (pulseBoundary m n s).coupling = s.coupling := by simp [pulseBoundary]
@[simp] theorem pulseBoundary_limit (m : Word) (n : List Notice) (s : State) : (pulseBoundary m n s).limit = s.limit := by simp [pulseBoundary]
@[simp] theorem pulseBoundary_mgmt (m : Word) (n : List Notice) (s : State) : (pulseBoundary m n s).mgmt = s.mgmt := by simp [pulseBoundary]
@[simp] theorem pulseBoundary_capture (m : Word) (n : List Notice) (s : State) : (pulseBoundary m n s).capture = s.capture := by simp [pulseBoundary]
@[simp] theorem pulseBoundary_profile (m : Word) (n : List Notice) (s : State) : (pulseBoundary m n s).profile = s.profile := by simp [pulseBoundary]
@[simp] theorem pulseBoundary_startUp (m : Word) (n : List Notice) (s : State) : (pulseBoundary m n s).startUp = s.startUp := by simp [pulseBoundary]
@[simp] theorem pulseBoundary_pending (m : Word) (n : List Notice) (s : State) : (pulseBoundary m n s).pending = s.pending := by simp [pulseBoundary]

@[simp] theorem completeTarget_ports (p : Pass) (s : State) : (completeTarget p s).ports = s.ports := by
  unfold completeTarget; simp only []; (repeat' split) <;> simp
@[simp] theorem completeTarget_slots (p : Pass) (s : State) : (completeTarget p s).slots = s.slots := by
  unfold completeTarget; simp only []; (repeat' split) <;> simp
@[simp] theorem completeTarget_intake (p : Pass) (s : State) : (completeTarget p s).intake = s.intake := by
  unfold completeTarget; simp only []; (repeat' split) <;> simp
@[simp] theorem completeTarget_banks (p : Pass) (s : State) : (completeTarget p s).banks = s.banks := by
  unfold completeTarget; simp only []; (repeat' split) <;> simp
@[simp] theorem completeTarget_pool (p : Pass) (s : State) : (completeTarget p s).pool = s.pool := by
  unfold completeTarget; simp only []; (repeat' split) <;> simp
@[simp] theorem completeTarget_mgmt (p : Pass) (s : State) : (completeTarget p s).mgmt = s.mgmt := by
  unfold completeTarget; simp only []; (repeat' split) <;> simp
@[simp] theorem completeTarget_profile (p : Pass) (s : State) : (completeTarget p s).profile = s.profile := by
  unfold completeTarget; simp only []; (repeat' split) <;> simp
@[simp] theorem completeTarget_startUp (p : Pass) (s : State) : (completeTarget p s).startUp = s.startUp := by
  unfold completeTarget; simp only []; (repeat' split) <;> simp
@[simp] theorem completeTarget_pending (p : Pass) (s : State) : (completeTarget p s).pending = s.pending := by
  unfold completeTarget; simp only []; (repeat' split) <;> simp

@[simp] theorem overrunPass_ports (s : State) : (overrunPass s).ports = s.ports := by
  unfold overrunPass; split <;> simp
@[simp] theorem overrunPass_slots (s : State) : (overrunPass s).slots = s.slots := by
  unfold overrunPass; split <;> simp
@[simp] theorem overrunPass_intake (s : State) : (overrunPass s).intake = s.intake := by
  unfold overrunPass; split <;> simp
@[simp] theorem overrunPass_banks (s : State) : (overrunPass s).banks = s.banks := by
  unfold overrunPass; split <;> simp
@[simp] theorem overrunPass_pool (s : State) : (overrunPass s).pool = s.pool := by
  unfold overrunPass; split <;> simp
@[simp] theorem overrunPass_limit (s : State) : (overrunPass s).limit = s.limit := by
  unfold overrunPass; split <;> simp
@[simp] theorem overrunPass_mgmt (s : State) : (overrunPass s).mgmt = s.mgmt := by
  unfold overrunPass; split <;> simp
@[simp] theorem overrunPass_profile (s : State) : (overrunPass s).profile = s.profile := by
  unfold overrunPass; split <;> simp
@[simp] theorem overrunPass_startUp (s : State) : (overrunPass s).startUp = s.startUp := by
  unfold overrunPass; split <;> simp
@[simp] theorem overrunPass_pending (s : State) : (overrunPass s).pending = s.pending := by
  unfold overrunPass; split <;> simp

@[simp] theorem startPass_ports (m : Word) (s : State) : (startPass m s).ports = s.ports := rfl
@[simp] theorem startPass_slots (m : Word) (s : State) : (startPass m s).slots = s.slots := rfl
@[simp] theorem startPass_intake (m : Word) (s : State) : (startPass m s).intake = s.intake := rfl
@[simp] theorem startPass_banks (m : Word) (s : State) : (startPass m s).banks = s.banks := rfl
@[simp] theorem startPass_pool (m : Word) (s : State) : (startPass m s).pool = s.pool := rfl
@[simp] theorem startPass_limit (m : Word) (s : State) : (startPass m s).limit = s.limit := rfl
@[simp] theorem startPass_mgmt (m : Word) (s : State) : (startPass m s).mgmt = s.mgmt := rfl
@[simp] theorem startPass_alerts (m : Word) (s : State) : (startPass m s).alerts = s.alerts := rfl
@[simp] theorem startPass_counters (m : Word) (s : State) : (startPass m s).counters = s.counters := rfl
@[simp] theorem startPass_capture (m : Word) (s : State) : (startPass m s).capture = s.capture := rfl
@[simp] theorem startPass_profile (m : Word) (s : State) : (startPass m s).profile = s.profile := rfl
@[simp] theorem startPass_startUp (m : Word) (s : State) : (startPass m s).startUp = s.startUp := rfl
@[simp] theorem startPass_pending (m : Word) (s : State) : (startPass m s).pending = s.pending := rfl

@[simp] theorem passTick_ports (s : State) : (passTick s).ports = s.ports := by
  unfold passTick; split <;> rfl
@[simp] theorem passTick_slots (s : State) : (passTick s).slots = s.slots := by
  unfold passTick; split <;> rfl
@[simp] theorem passTick_intake (s : State) : (passTick s).intake = s.intake := by
  unfold passTick; split <;> rfl
@[simp] theorem passTick_banks (s : State) : (passTick s).banks = s.banks := by
  unfold passTick; split <;> rfl
@[simp] theorem passTick_pool (s : State) : (passTick s).pool = s.pool := by
  unfold passTick; split <;> rfl
@[simp] theorem passTick_limit (s : State) : (passTick s).limit = s.limit := by
  unfold passTick; split <;> rfl
@[simp] theorem passTick_mgmt (s : State) : (passTick s).mgmt = s.mgmt := by
  unfold passTick; split <;> rfl
@[simp] theorem passTick_alerts (s : State) : (passTick s).alerts = s.alerts := by
  unfold passTick; split <;> rfl
@[simp] theorem passTick_counters (s : State) : (passTick s).counters = s.counters := by
  unfold passTick; split <;> rfl
@[simp] theorem passTick_capture (s : State) : (passTick s).capture = s.capture := by
  unfold passTick; split <;> rfl
@[simp] theorem passTick_profile (s : State) : (passTick s).profile = s.profile := by
  unfold passTick; split <;> rfl
@[simp] theorem passTick_startUp (s : State) : (passTick s).startUp = s.startUp := by
  unfold passTick; split <;> rfl
@[simp] theorem passTick_pending (s : State) : (passTick s).pending = s.pending := by
  unfold passTick; split <;> rfl

@[simp] theorem evaluateSlots_ports (f : Frame) (s : State) : (evaluateSlots f s).ports = s.ports := by simp [evaluateSlots]
@[simp] theorem evaluateSlots_intake (f : Frame) (s : State) : (evaluateSlots f s).intake = s.intake := by simp [evaluateSlots]
@[simp] theorem evaluateSlots_banks (f : Frame) (s : State) : (evaluateSlots f s).banks = s.banks := by simp [evaluateSlots]
@[simp] theorem evaluateSlots_coupling (f : Frame) (s : State) : (evaluateSlots f s).coupling = s.coupling := by simp [evaluateSlots]
@[simp] theorem evaluateSlots_limit (f : Frame) (s : State) : (evaluateSlots f s).limit = s.limit := by simp [evaluateSlots]
@[simp] theorem evaluateSlots_mgmt (f : Frame) (s : State) : (evaluateSlots f s).mgmt = s.mgmt := by simp [evaluateSlots]
@[simp] theorem evaluateSlots_counters (f : Frame) (s : State) : (evaluateSlots f s).counters = s.counters := by simp [evaluateSlots]
@[simp] theorem evaluateSlots_capture (f : Frame) (s : State) : (evaluateSlots f s).capture = s.capture := by simp [evaluateSlots]
@[simp] theorem evaluateSlots_profile (f : Frame) (s : State) : (evaluateSlots f s).profile = s.profile := by simp [evaluateSlots]
@[simp] theorem evaluateSlots_startUp (f : Frame) (s : State) : (evaluateSlots f s).startUp = s.startUp := by simp [evaluateSlots]
@[simp] theorem evaluateSlots_pending (f : Frame) (s : State) : (evaluateSlots f s).pending = s.pending := by simp [evaluateSlots]

@[simp] theorem giveEntries_ports (f : Frame) (u : SlotUnit) (s : State) : (giveEntries f u s).ports = s.ports := by simp [giveEntries]
@[simp] theorem giveEntries_slots (f : Frame) (u : SlotUnit) (s : State) : (giveEntries f u s).slots = s.slots := by simp [giveEntries]
@[simp] theorem giveEntries_banks (f : Frame) (u : SlotUnit) (s : State) : (giveEntries f u s).banks = s.banks := by simp [giveEntries]
@[simp] theorem giveEntries_coupling (f : Frame) (u : SlotUnit) (s : State) : (giveEntries f u s).coupling = s.coupling := by simp [giveEntries]
@[simp] theorem giveEntries_pool (f : Frame) (u : SlotUnit) (s : State) : (giveEntries f u s).pool = s.pool := by simp [giveEntries]
@[simp] theorem giveEntries_limit (f : Frame) (u : SlotUnit) (s : State) : (giveEntries f u s).limit = s.limit := by simp [giveEntries]
@[simp] theorem giveEntries_mgmt (f : Frame) (u : SlotUnit) (s : State) : (giveEntries f u s).mgmt = s.mgmt := by simp [giveEntries]
@[simp] theorem giveEntries_alerts (f : Frame) (u : SlotUnit) (s : State) : (giveEntries f u s).alerts = s.alerts := by simp [giveEntries]
@[simp] theorem giveEntries_capture (f : Frame) (u : SlotUnit) (s : State) : (giveEntries f u s).capture = s.capture := by simp [giveEntries]
@[simp] theorem giveEntries_profile (f : Frame) (u : SlotUnit) (s : State) : (giveEntries f u s).profile = s.profile := by simp [giveEntries]
@[simp] theorem giveEntries_startUp (f : Frame) (u : SlotUnit) (s : State) : (giveEntries f u s).startUp = s.startUp := by simp [giveEntries]
@[simp] theorem giveEntries_pending (f : Frame) (u : SlotUnit) (s : State) : (giveEntries f u s).pending = s.pending := by simp [giveEntries]

@[simp] theorem leaseBoundary_ports (s : State) : (leaseBoundary s).ports = s.ports := by simp [leaseBoundary]
@[simp] theorem leaseBoundary_slots (s : State) : (leaseBoundary s).slots = s.slots := by simp [leaseBoundary]
@[simp] theorem leaseBoundary_intake (s : State) : (leaseBoundary s).intake = s.intake := by simp [leaseBoundary]
@[simp] theorem leaseBoundary_banks (s : State) : (leaseBoundary s).banks = s.banks := by simp [leaseBoundary]
@[simp] theorem leaseBoundary_coupling (s : State) : (leaseBoundary s).coupling = s.coupling := by simp [leaseBoundary]
@[simp] theorem leaseBoundary_pool (s : State) : (leaseBoundary s).pool = s.pool := by simp [leaseBoundary]
@[simp] theorem leaseBoundary_limit (s : State) : (leaseBoundary s).limit = s.limit := by simp [leaseBoundary]
@[simp] theorem leaseBoundary_counters (s : State) : (leaseBoundary s).counters = s.counters := by simp [leaseBoundary]
@[simp] theorem leaseBoundary_capture (s : State) : (leaseBoundary s).capture = s.capture := by simp [leaseBoundary]
@[simp] theorem leaseBoundary_profile (s : State) : (leaseBoundary s).profile = s.profile := by simp [leaseBoundary]
@[simp] theorem leaseBoundary_startUp (s : State) : (leaseBoundary s).startUp = s.startUp := by simp [leaseBoundary]
@[simp] theorem leaseBoundary_pending (s : State) : (leaseBoundary s).pending = s.pending := by simp [leaseBoundary]

@[simp] theorem persistBoundary_ports (s : State) : (persistBoundary s).ports = s.ports := by
  unfold persistBoundary; (repeat' split) <;> rfl
@[simp] theorem persistBoundary_slots (s : State) : (persistBoundary s).slots = s.slots := by
  unfold persistBoundary; (repeat' split) <;> rfl
@[simp] theorem persistBoundary_intake (s : State) : (persistBoundary s).intake = s.intake := by
  unfold persistBoundary; (repeat' split) <;> rfl
@[simp] theorem persistBoundary_banks (s : State) : (persistBoundary s).banks = s.banks := by
  unfold persistBoundary; (repeat' split) <;> rfl
@[simp] theorem persistBoundary_coupling (s : State) : (persistBoundary s).coupling = s.coupling := by
  unfold persistBoundary; (repeat' split) <;> rfl
@[simp] theorem persistBoundary_pool (s : State) : (persistBoundary s).pool = s.pool := by
  unfold persistBoundary; (repeat' split) <;> rfl
@[simp] theorem persistBoundary_limit (s : State) : (persistBoundary s).limit = s.limit := by
  unfold persistBoundary; (repeat' split) <;> rfl
@[simp] theorem persistBoundary_mgmt (s : State) : (persistBoundary s).mgmt = s.mgmt := by
  unfold persistBoundary; (repeat' split) <;> rfl
@[simp] theorem persistBoundary_counters (s : State) : (persistBoundary s).counters = s.counters := by
  unfold persistBoundary; (repeat' split) <;> rfl
@[simp] theorem persistBoundary_capture (s : State) : (persistBoundary s).capture = s.capture := by
  unfold persistBoundary; (repeat' split) <;> rfl
@[simp] theorem persistBoundary_startUp (s : State) : (persistBoundary s).startUp = s.startUp := by
  unfold persistBoundary; (repeat' split) <;> rfl
@[simp] theorem persistBoundary_pending (s : State) : (persistBoundary s).pending = s.pending := by
  unfold persistBoundary; (repeat' split) <;> rfl

@[simp] theorem boundaryIntake_ports (f : Frame) (s : State) : (boundaryIntake f s).ports = s.ports := by simp [boundaryIntake]
@[simp] theorem boundaryIntake_banks (f : Frame) (s : State) : (boundaryIntake f s).banks = s.banks := by simp [boundaryIntake]
@[simp] theorem boundaryIntake_mgmt (f : Frame) (s : State) : (boundaryIntake f s).mgmt = s.mgmt := by simp [boundaryIntake]
@[simp] theorem boundaryIntake_profile (f : Frame) (s : State) : (boundaryIntake f s).profile = s.profile := by simp [boundaryIntake]
@[simp] theorem boundaryIntake_startUp (f : Frame) (s : State) : (boundaryIntake f s).startUp = s.startUp := by simp [boundaryIntake]
@[simp] theorem boundaryIntake_pending (f : Frame) (s : State) : (boundaryIntake f s).pending = s.pending := by simp [boundaryIntake]

@[simp] theorem frameBoundary_ports (f : Frame) (s : State) : (frameBoundary f s).ports = s.ports := by simp [frameBoundary]
@[simp] theorem frameBoundary_startUp (f : Frame) (s : State) : (frameBoundary f s).startUp = s.startUp := by simp [frameBoundary]
@[simp] theorem frameBoundary_pending (f : Frame) (s : State) : (frameBoundary f s).pending = s.pending := by simp [frameBoundary]

end Sys2Proof.Machine
end

