-- ==== Sys2Proof/Laws/Commands.lean ====
section
/-! SUPPORT. What each command's decision leaves as it was. -/

namespace Sys2Proof.Machine

@[simp] theorem unchanged_state (a : Answer) (s : State) : (unchanged a s).1 = s := rfl

@[simp] theorem decideStatus_ports (s : State) : ((decideStatus s).1).ports = s.ports := rfl
@[simp] theorem decideStatus_slots (s : State) : ((decideStatus s).1).slots = s.slots := rfl
@[simp] theorem decideStatus_intake (s : State) : ((decideStatus s).1).intake = s.intake := rfl
@[simp] theorem decideStatus_banks (s : State) : ((decideStatus s).1).banks = s.banks := rfl
@[simp] theorem decideStatus_coupling (s : State) : ((decideStatus s).1).coupling = s.coupling := rfl
@[simp] theorem decideStatus_pool (s : State) : ((decideStatus s).1).pool = s.pool := rfl
@[simp] theorem decideStatus_mgmt (s : State) : ((decideStatus s).1).mgmt = s.mgmt := rfl
@[simp] theorem decideStatus_alerts (s : State) : ((decideStatus s).1).alerts = s.alerts := rfl
@[simp] theorem decideStatus_counters (s : State) : ((decideStatus s).1).counters = s.counters := rfl
@[simp] theorem decideStatus_capture (s : State) : ((decideStatus s).1).capture = s.capture := rfl
@[simp] theorem decideStatus_profile (s : State) : ((decideStatus s).1).profile = s.profile := rfl
@[simp] theorem decideStatus_startUp (s : State) : ((decideStatus s).1).startUp = s.startUp := rfl
@[simp] theorem decideStatus_pending (s : State) : ((decideStatus s).1).pending = s.pending := rfl

@[simp] theorem decideClaim_ports (r : Request) (s : State) : ((decideClaim r s).1).ports = s.ports := by
  unfold decideClaim; simp only []; (repeat' split) <;> simp
@[simp] theorem decideClaim_slots (r : Request) (s : State) : ((decideClaim r s).1).slots = s.slots := by
  unfold decideClaim; simp only []; (repeat' split) <;> simp
@[simp] theorem decideClaim_intake (r : Request) (s : State) : ((decideClaim r s).1).intake = s.intake := by
  unfold decideClaim; simp only []; (repeat' split) <;> simp
@[simp] theorem decideClaim_banks (r : Request) (s : State) : ((decideClaim r s).1).banks = s.banks := by
  unfold decideClaim; simp only []; (repeat' split) <;> simp
@[simp] theorem decideClaim_coupling (r : Request) (s : State) : ((decideClaim r s).1).coupling = s.coupling := by
  unfold decideClaim; simp only []; (repeat' split) <;> simp
@[simp] theorem decideClaim_pool (r : Request) (s : State) : ((decideClaim r s).1).pool = s.pool := by
  unfold decideClaim; simp only []; (repeat' split) <;> simp
@[simp] theorem decideClaim_limit (r : Request) (s : State) : ((decideClaim r s).1).limit = s.limit := by
  unfold decideClaim; simp only []; (repeat' split) <;> simp
@[simp] theorem decideClaim_alerts (r : Request) (s : State) : ((decideClaim r s).1).alerts = s.alerts := by
  unfold decideClaim; simp only []; (repeat' split) <;> simp
@[simp] theorem decideClaim_counters (r : Request) (s : State) : ((decideClaim r s).1).counters = s.counters := by
  unfold decideClaim; simp only []; (repeat' split) <;> simp
@[simp] theorem decideClaim_capture (r : Request) (s : State) : ((decideClaim r s).1).capture = s.capture := by
  unfold decideClaim; simp only []; (repeat' split) <;> simp
@[simp] theorem decideClaim_profile (r : Request) (s : State) : ((decideClaim r s).1).profile = s.profile := by
  unfold decideClaim; simp only []; (repeat' split) <;> simp
@[simp] theorem decideClaim_startUp (r : Request) (s : State) : ((decideClaim r s).1).startUp = s.startUp := by
  unfold decideClaim; simp only []; (repeat' split) <;> simp
@[simp] theorem decideClaim_pending (r : Request) (s : State) : ((decideClaim r s).1).pending = s.pending := by
  unfold decideClaim; simp only []; (repeat' split) <;> simp

@[simp] theorem decideClaim_queue (r : Request) (s : State) : (decideClaim r s).1.mgmt.queue = s.mgmt.queue := by
  unfold decideClaim; (repeat' split) <;> rfl

@[simp] theorem decideClaim_contexts (r : Request) (s : State) : (decideClaim r s).1.mgmt.contexts = s.mgmt.contexts := by
  unfold decideClaim; (repeat' split) <;> rfl

@[simp] theorem decideRelease_ports (r : Request) (s : State) : ((decideRelease r s).1).ports = s.ports := by
  unfold decideRelease; simp only []; (repeat' split) <;> simp
@[simp] theorem decideRelease_slots (r : Request) (s : State) : ((decideRelease r s).1).slots = s.slots := by
  unfold decideRelease; simp only []; (repeat' split) <;> simp
@[simp] theorem decideRelease_intake (r : Request) (s : State) : ((decideRelease r s).1).intake = s.intake := by
  unfold decideRelease; simp only []; (repeat' split) <;> simp
@[simp] theorem decideRelease_banks (r : Request) (s : State) : ((decideRelease r s).1).banks = s.banks := by
  unfold decideRelease; simp only []; (repeat' split) <;> simp
@[simp] theorem decideRelease_coupling (r : Request) (s : State) : ((decideRelease r s).1).coupling = s.coupling := by
  unfold decideRelease; simp only []; (repeat' split) <;> simp
@[simp] theorem decideRelease_pool (r : Request) (s : State) : ((decideRelease r s).1).pool = s.pool := by
  unfold decideRelease; simp only []; (repeat' split) <;> simp
@[simp] theorem decideRelease_limit (r : Request) (s : State) : ((decideRelease r s).1).limit = s.limit := by
  unfold decideRelease; simp only []; (repeat' split) <;> simp
@[simp] theorem decideRelease_alerts (r : Request) (s : State) : ((decideRelease r s).1).alerts = s.alerts := by
  unfold decideRelease; simp only []; (repeat' split) <;> simp
@[simp] theorem decideRelease_counters (r : Request) (s : State) : ((decideRelease r s).1).counters = s.counters := by
  unfold decideRelease; simp only []; (repeat' split) <;> simp
@[simp] theorem decideRelease_capture (r : Request) (s : State) : ((decideRelease r s).1).capture = s.capture := by
  unfold decideRelease; simp only []; (repeat' split) <;> simp
@[simp] theorem decideRelease_profile (r : Request) (s : State) : ((decideRelease r s).1).profile = s.profile := by
  unfold decideRelease; simp only []; (repeat' split) <;> simp
@[simp] theorem decideRelease_startUp (r : Request) (s : State) : ((decideRelease r s).1).startUp = s.startUp := by
  unfold decideRelease; simp only []; (repeat' split) <;> simp
@[simp] theorem decideRelease_pending (r : Request) (s : State) : ((decideRelease r s).1).pending = s.pending := by
  unfold decideRelease; simp only []; (repeat' split) <;> simp

@[simp] theorem decideRelease_queue (r : Request) (s : State) : (decideRelease r s).1.mgmt.queue = s.mgmt.queue := by
  unfold decideRelease; (repeat' split) <;> rfl

@[simp] theorem decideRelease_contexts (r : Request) (s : State) : (decideRelease r s).1.mgmt.contexts = s.mgmt.contexts := by
  unfold decideRelease; (repeat' split) <;> rfl

@[simp] theorem decideSelect_ports (r : Request) (s : State) : ((decideSelect r s).1).ports = s.ports := by
  unfold decideSelect; simp only []; (repeat' split) <;> simp
@[simp] theorem decideSelect_slots (r : Request) (s : State) : ((decideSelect r s).1).slots = s.slots := by
  unfold decideSelect; simp only []; (repeat' split) <;> simp
@[simp] theorem decideSelect_intake (r : Request) (s : State) : ((decideSelect r s).1).intake = s.intake := by
  unfold decideSelect; simp only []; (repeat' split) <;> simp
@[simp] theorem decideSelect_banks (r : Request) (s : State) : ((decideSelect r s).1).banks = s.banks := by
  unfold decideSelect; simp only []; (repeat' split) <;> simp
@[simp] theorem decideSelect_coupling (r : Request) (s : State) : ((decideSelect r s).1).coupling = s.coupling := by
  unfold decideSelect; simp only []; (repeat' split) <;> simp
@[simp] theorem decideSelect_pool (r : Request) (s : State) : ((decideSelect r s).1).pool = s.pool := by
  unfold decideSelect; simp only []; (repeat' split) <;> simp
@[simp] theorem decideSelect_limit (r : Request) (s : State) : ((decideSelect r s).1).limit = s.limit := by
  unfold decideSelect; simp only []; (repeat' split) <;> simp
@[simp] theorem decideSelect_alerts (r : Request) (s : State) : ((decideSelect r s).1).alerts = s.alerts := by
  unfold decideSelect; simp only []; (repeat' split) <;> simp
@[simp] theorem decideSelect_counters (r : Request) (s : State) : ((decideSelect r s).1).counters = s.counters := by
  unfold decideSelect; simp only []; (repeat' split) <;> simp
@[simp] theorem decideSelect_capture (r : Request) (s : State) : ((decideSelect r s).1).capture = s.capture := by
  unfold decideSelect; simp only []; (repeat' split) <;> simp
@[simp] theorem decideSelect_profile (r : Request) (s : State) : ((decideSelect r s).1).profile = s.profile := by
  unfold decideSelect; simp only []; (repeat' split) <;> simp
@[simp] theorem decideSelect_startUp (r : Request) (s : State) : ((decideSelect r s).1).startUp = s.startUp := by
  unfold decideSelect; simp only []; (repeat' split) <;> simp
@[simp] theorem decideSelect_pending (r : Request) (s : State) : ((decideSelect r s).1).pending = s.pending := by
  unfold decideSelect; simp only []; (repeat' split) <;> simp

@[simp] theorem decideSelect_queue (r : Request) (s : State) : (decideSelect r s).1.mgmt.queue = s.mgmt.queue := by
  unfold decideSelect; simp only []; (repeat' split) <;> rfl

@[simp] theorem decideSelect_locks (r : Request) (s : State) : (decideSelect r s).1.mgmt.locks = s.mgmt.locks := by
  unfold decideSelect; simp only []; (repeat' split) <;> rfl

@[simp] theorem decideCommit_ports (r : Request) (s : State) : ((decideCommit r s).1).ports = s.ports := by
  unfold decideCommit; simp only []; (repeat' split) <;> simp
@[simp] theorem decideCommit_slots (r : Request) (s : State) : ((decideCommit r s).1).slots = s.slots := by
  unfold decideCommit; simp only []; (repeat' split) <;> simp
@[simp] theorem decideCommit_intake (r : Request) (s : State) : ((decideCommit r s).1).intake = s.intake := by
  unfold decideCommit; simp only []; (repeat' split) <;> simp
@[simp] theorem decideCommit_coupling (r : Request) (s : State) : ((decideCommit r s).1).coupling = s.coupling := by
  unfold decideCommit; simp only []; (repeat' split) <;> simp
@[simp] theorem decideCommit_pool (r : Request) (s : State) : ((decideCommit r s).1).pool = s.pool := by
  unfold decideCommit; simp only []; (repeat' split) <;> simp
@[simp] theorem decideCommit_limit (r : Request) (s : State) : ((decideCommit r s).1).limit = s.limit := by
  unfold decideCommit; simp only []; (repeat' split) <;> simp
@[simp] theorem decideCommit_mgmt (r : Request) (s : State) : ((decideCommit r s).1).mgmt = s.mgmt := by
  unfold decideCommit; simp only []; (repeat' split) <;> simp
@[simp] theorem decideCommit_alerts (r : Request) (s : State) : ((decideCommit r s).1).alerts = s.alerts := by
  unfold decideCommit; simp only []; (repeat' split) <;> simp
@[simp] theorem decideCommit_counters (r : Request) (s : State) : ((decideCommit r s).1).counters = s.counters := by
  unfold decideCommit; simp only []; (repeat' split) <;> simp
@[simp] theorem decideCommit_capture (r : Request) (s : State) : ((decideCommit r s).1).capture = s.capture := by
  unfold decideCommit; simp only []; (repeat' split) <;> simp
@[simp] theorem decideCommit_profile (r : Request) (s : State) : ((decideCommit r s).1).profile = s.profile := by
  unfold decideCommit; simp only []; (repeat' split) <;> simp
@[simp] theorem decideCommit_startUp (r : Request) (s : State) : ((decideCommit r s).1).startUp = s.startUp := by
  unfold decideCommit; simp only []; (repeat' split) <;> simp
@[simp] theorem decideCommit_pending (r : Request) (s : State) : ((decideCommit r s).1).pending = s.pending := by
  unfold decideCommit; simp only []; (repeat' split) <;> simp

@[simp] theorem decideResync_ports (r : Request) (s : State) : ((decideResync r s).1).ports = s.ports := by
  unfold decideResync; simp only []; (repeat' split) <;> simp
@[simp] theorem decideResync_slots (r : Request) (s : State) : ((decideResync r s).1).slots = s.slots := by
  unfold decideResync; simp only []; (repeat' split) <;> simp
@[simp] theorem decideResync_intake (r : Request) (s : State) : ((decideResync r s).1).intake = s.intake := by
  unfold decideResync; simp only []; (repeat' split) <;> simp
@[simp] theorem decideResync_coupling (r : Request) (s : State) : ((decideResync r s).1).coupling = s.coupling := by
  unfold decideResync; simp only []; (repeat' split) <;> simp
@[simp] theorem decideResync_pool (r : Request) (s : State) : ((decideResync r s).1).pool = s.pool := by
  unfold decideResync; simp only []; (repeat' split) <;> simp
@[simp] theorem decideResync_limit (r : Request) (s : State) : ((decideResync r s).1).limit = s.limit := by
  unfold decideResync; simp only []; (repeat' split) <;> simp
@[simp] theorem decideResync_mgmt (r : Request) (s : State) : ((decideResync r s).1).mgmt = s.mgmt := by
  unfold decideResync; simp only []; (repeat' split) <;> simp
@[simp] theorem decideResync_alerts (r : Request) (s : State) : ((decideResync r s).1).alerts = s.alerts := by
  unfold decideResync; simp only []; (repeat' split) <;> simp
@[simp] theorem decideResync_counters (r : Request) (s : State) : ((decideResync r s).1).counters = s.counters := by
  unfold decideResync; simp only []; (repeat' split) <;> simp
@[simp] theorem decideResync_capture (r : Request) (s : State) : ((decideResync r s).1).capture = s.capture := by
  unfold decideResync; simp only []; (repeat' split) <;> simp
@[simp] theorem decideResync_profile (r : Request) (s : State) : ((decideResync r s).1).profile = s.profile := by
  unfold decideResync; simp only []; (repeat' split) <;> simp
@[simp] theorem decideResync_startUp (r : Request) (s : State) : ((decideResync r s).1).startUp = s.startUp := by
  unfold decideResync; simp only []; (repeat' split) <;> simp
@[simp] theorem decideResync_pending (r : Request) (s : State) : ((decideResync r s).1).pending = s.pending := by
  unfold decideResync; simp only []; (repeat' split) <;> simp

@[simp] theorem decideClearStandby_ports (r : Request) (s : State) : ((decideClearStandby r s).1).ports = s.ports := by
  unfold decideClearStandby; simp only []; (repeat' split) <;> simp
@[simp] theorem decideClearStandby_slots (r : Request) (s : State) : ((decideClearStandby r s).1).slots = s.slots := by
  unfold decideClearStandby; simp only []; (repeat' split) <;> simp
@[simp] theorem decideClearStandby_intake (r : Request) (s : State) : ((decideClearStandby r s).1).intake = s.intake := by
  unfold decideClearStandby; simp only []; (repeat' split) <;> simp
@[simp] theorem decideClearStandby_coupling (r : Request) (s : State) : ((decideClearStandby r s).1).coupling = s.coupling := by
  unfold decideClearStandby; simp only []; (repeat' split) <;> simp
@[simp] theorem decideClearStandby_pool (r : Request) (s : State) : ((decideClearStandby r s).1).pool = s.pool := by
  unfold decideClearStandby; simp only []; (repeat' split) <;> simp
@[simp] theorem decideClearStandby_limit (r : Request) (s : State) : ((decideClearStandby r s).1).limit = s.limit := by
  unfold decideClearStandby; simp only []; (repeat' split) <;> simp
@[simp] theorem decideClearStandby_mgmt (r : Request) (s : State) : ((decideClearStandby r s).1).mgmt = s.mgmt := by
  unfold decideClearStandby; simp only []; (repeat' split) <;> simp
@[simp] theorem decideClearStandby_alerts (r : Request) (s : State) : ((decideClearStandby r s).1).alerts = s.alerts := by
  unfold decideClearStandby; simp only []; (repeat' split) <;> simp
@[simp] theorem decideClearStandby_counters (r : Request) (s : State) : ((decideClearStandby r s).1).counters = s.counters := by
  unfold decideClearStandby; simp only []; (repeat' split) <;> simp
@[simp] theorem decideClearStandby_capture (r : Request) (s : State) : ((decideClearStandby r s).1).capture = s.capture := by
  unfold decideClearStandby; simp only []; (repeat' split) <;> simp
@[simp] theorem decideClearStandby_profile (r : Request) (s : State) : ((decideClearStandby r s).1).profile = s.profile := by
  unfold decideClearStandby; simp only []; (repeat' split) <;> simp
@[simp] theorem decideClearStandby_startUp (r : Request) (s : State) : ((decideClearStandby r s).1).startUp = s.startUp := by
  unfold decideClearStandby; simp only []; (repeat' split) <;> simp
@[simp] theorem decideClearStandby_pending (r : Request) (s : State) : ((decideClearStandby r s).1).pending = s.pending := by
  unfold decideClearStandby; simp only []; (repeat' split) <;> simp

@[simp] theorem decideMode_ports (r : Request) (s : State) : ((decideMode r s).1).ports = s.ports := by
  unfold decideMode; simp only []; (repeat' split) <;> simp
@[simp] theorem decideMode_slots (r : Request) (s : State) : ((decideMode r s).1).slots = s.slots := by
  unfold decideMode; simp only []; (repeat' split) <;> simp
@[simp] theorem decideMode_intake (r : Request) (s : State) : ((decideMode r s).1).intake = s.intake := by
  unfold decideMode; simp only []; (repeat' split) <;> simp
@[simp] theorem decideMode_banks (r : Request) (s : State) : ((decideMode r s).1).banks = s.banks := by
  unfold decideMode; simp only []; (repeat' split) <;> simp
@[simp] theorem decideMode_coupling (r : Request) (s : State) : ((decideMode r s).1).coupling = s.coupling := by
  unfold decideMode; simp only []; (repeat' split) <;> simp
@[simp] theorem decideMode_pool (r : Request) (s : State) : ((decideMode r s).1).pool = s.pool := by
  unfold decideMode; simp only []; (repeat' split) <;> simp
@[simp] theorem decideMode_mgmt (r : Request) (s : State) : ((decideMode r s).1).mgmt = s.mgmt := by
  unfold decideMode; simp only []; (repeat' split) <;> simp
@[simp] theorem decideMode_alerts (r : Request) (s : State) : ((decideMode r s).1).alerts = s.alerts := by
  unfold decideMode; simp only []; (repeat' split) <;> simp
@[simp] theorem decideMode_counters (r : Request) (s : State) : ((decideMode r s).1).counters = s.counters := by
  unfold decideMode; simp only []; (repeat' split) <;> simp
@[simp] theorem decideMode_capture (r : Request) (s : State) : ((decideMode r s).1).capture = s.capture := by
  unfold decideMode; simp only []; (repeat' split) <;> simp
@[simp] theorem decideMode_profile (r : Request) (s : State) : ((decideMode r s).1).profile = s.profile := by
  unfold decideMode; simp only []; (repeat' split) <;> simp
@[simp] theorem decideMode_startUp (r : Request) (s : State) : ((decideMode r s).1).startUp = s.startUp := by
  unfold decideMode; simp only []; (repeat' split) <;> simp
@[simp] theorem decideMode_pending (r : Request) (s : State) : ((decideMode r s).1).pending = s.pending := by
  unfold decideMode; simp only []; (repeat' split) <;> simp

@[simp] theorem decideArmCapture_ports (r : Request) (s : State) : ((decideArmCapture r s).1).ports = s.ports := by
  unfold decideArmCapture; (repeat' split) <;> simp
@[simp] theorem decideArmCapture_slots (r : Request) (s : State) : ((decideArmCapture r s).1).slots = s.slots := by
  unfold decideArmCapture; (repeat' split) <;> simp
@[simp] theorem decideArmCapture_intake (r : Request) (s : State) : ((decideArmCapture r s).1).intake = s.intake := by
  unfold decideArmCapture; (repeat' split) <;> simp
@[simp] theorem decideArmCapture_banks (r : Request) (s : State) : ((decideArmCapture r s).1).banks = s.banks := by
  unfold decideArmCapture; (repeat' split) <;> simp
@[simp] theorem decideArmCapture_coupling (r : Request) (s : State) : ((decideArmCapture r s).1).coupling = s.coupling := by
  unfold decideArmCapture; (repeat' split) <;> simp
@[simp] theorem decideArmCapture_pool (r : Request) (s : State) : ((decideArmCapture r s).1).pool = s.pool := by
  unfold decideArmCapture; (repeat' split) <;> simp
@[simp] theorem decideArmCapture_limit (r : Request) (s : State) : ((decideArmCapture r s).1).limit = s.limit := by
  unfold decideArmCapture; (repeat' split) <;> simp
@[simp] theorem decideArmCapture_mgmt (r : Request) (s : State) : ((decideArmCapture r s).1).mgmt = s.mgmt := by
  unfold decideArmCapture; (repeat' split) <;> simp
@[simp] theorem decideArmCapture_alerts (r : Request) (s : State) : ((decideArmCapture r s).1).alerts = s.alerts := by
  unfold decideArmCapture; (repeat' split) <;> simp
@[simp] theorem decideArmCapture_counters (r : Request) (s : State) : ((decideArmCapture r s).1).counters = s.counters := by
  unfold decideArmCapture; (repeat' split) <;> simp
@[simp] theorem decideArmCapture_profile (r : Request) (s : State) : ((decideArmCapture r s).1).profile = s.profile := by
  unfold decideArmCapture; (repeat' split) <;> simp
@[simp] theorem decideArmCapture_startUp (r : Request) (s : State) : ((decideArmCapture r s).1).startUp = s.startUp := by
  unfold decideArmCapture; (repeat' split) <;> simp
@[simp] theorem decideArmCapture_pending (r : Request) (s : State) : ((decideArmCapture r s).1).pending = s.pending := by
  unfold decideArmCapture; (repeat' split) <;> simp

@[simp] theorem decidePersist_ports (r : Request) (s : State) : ((decidePersist r s).1).ports = s.ports := by
  unfold decidePersist; simp only []; (repeat' split) <;> simp
@[simp] theorem decidePersist_slots (r : Request) (s : State) : ((decidePersist r s).1).slots = s.slots := by
  unfold decidePersist; simp only []; (repeat' split) <;> simp
@[simp] theorem decidePersist_intake (r : Request) (s : State) : ((decidePersist r s).1).intake = s.intake := by
  unfold decidePersist; simp only []; (repeat' split) <;> simp
@[simp] theorem decidePersist_banks (r : Request) (s : State) : ((decidePersist r s).1).banks = s.banks := by
  unfold decidePersist; simp only []; (repeat' split) <;> simp
@[simp] theorem decidePersist_coupling (r : Request) (s : State) : ((decidePersist r s).1).coupling = s.coupling := by
  unfold decidePersist; simp only []; (repeat' split) <;> simp
@[simp] theorem decidePersist_pool (r : Request) (s : State) : ((decidePersist r s).1).pool = s.pool := by
  unfold decidePersist; simp only []; (repeat' split) <;> simp
@[simp] theorem decidePersist_limit (r : Request) (s : State) : ((decidePersist r s).1).limit = s.limit := by
  unfold decidePersist; simp only []; (repeat' split) <;> simp
@[simp] theorem decidePersist_mgmt (r : Request) (s : State) : ((decidePersist r s).1).mgmt = s.mgmt := by
  unfold decidePersist; simp only []; (repeat' split) <;> simp
@[simp] theorem decidePersist_alerts (r : Request) (s : State) : ((decidePersist r s).1).alerts = s.alerts := by
  unfold decidePersist; simp only []; (repeat' split) <;> simp
@[simp] theorem decidePersist_counters (r : Request) (s : State) : ((decidePersist r s).1).counters = s.counters := by
  unfold decidePersist; simp only []; (repeat' split) <;> simp
@[simp] theorem decidePersist_capture (r : Request) (s : State) : ((decidePersist r s).1).capture = s.capture := by
  unfold decidePersist; simp only []; (repeat' split) <;> simp
@[simp] theorem decidePersist_startUp (r : Request) (s : State) : ((decidePersist r s).1).startUp = s.startUp := by
  unfold decidePersist; simp only []; (repeat' split) <;> simp
@[simp] theorem decidePersist_pending (r : Request) (s : State) : ((decidePersist r s).1).pending = s.pending := by
  unfold decidePersist; simp only []; (repeat' split) <;> simp

@[simp] theorem decideAckAlert_ports (r : Request) (s : State) : ((decideAckAlert r s).1).ports = s.ports := rfl
@[simp] theorem decideAckAlert_slots (r : Request) (s : State) : ((decideAckAlert r s).1).slots = s.slots := rfl
@[simp] theorem decideAckAlert_intake (r : Request) (s : State) : ((decideAckAlert r s).1).intake = s.intake := rfl
@[simp] theorem decideAckAlert_banks (r : Request) (s : State) : ((decideAckAlert r s).1).banks = s.banks := rfl
@[simp] theorem decideAckAlert_coupling (r : Request) (s : State) : ((decideAckAlert r s).1).coupling = s.coupling := rfl
@[simp] theorem decideAckAlert_pool (r : Request) (s : State) : ((decideAckAlert r s).1).pool = s.pool := rfl
@[simp] theorem decideAckAlert_limit (r : Request) (s : State) : ((decideAckAlert r s).1).limit = s.limit := rfl
@[simp] theorem decideAckAlert_mgmt (r : Request) (s : State) : ((decideAckAlert r s).1).mgmt = s.mgmt := rfl
@[simp] theorem decideAckAlert_counters (r : Request) (s : State) : ((decideAckAlert r s).1).counters = s.counters := rfl
@[simp] theorem decideAckAlert_capture (r : Request) (s : State) : ((decideAckAlert r s).1).capture = s.capture := rfl
@[simp] theorem decideAckAlert_profile (r : Request) (s : State) : ((decideAckAlert r s).1).profile = s.profile := rfl
@[simp] theorem decideAckAlert_startUp (r : Request) (s : State) : ((decideAckAlert r s).1).startUp = s.startUp := rfl
@[simp] theorem decideAckAlert_pending (r : Request) (s : State) : ((decideAckAlert r s).1).pending = s.pending := rfl

@[simp] theorem decideUnknown_state (s : State) : (decideUnknown s).1 = s := rfl

@[simp] theorem acceptWrite_ports (r : Request) (t : Table) (s : State) : ((acceptWrite r t s).1).ports = s.ports := rfl
@[simp] theorem acceptWrite_slots (r : Request) (t : Table) (s : State) : ((acceptWrite r t s).1).slots = s.slots := rfl
@[simp] theorem acceptWrite_intake (r : Request) (t : Table) (s : State) : ((acceptWrite r t s).1).intake = s.intake := rfl
@[simp] theorem acceptWrite_banks (r : Request) (t : Table) (s : State) : ((acceptWrite r t s).1).banks = s.banks := rfl
@[simp] theorem acceptWrite_coupling (r : Request) (t : Table) (s : State) : ((acceptWrite r t s).1).coupling = s.coupling := rfl
@[simp] theorem acceptWrite_pool (r : Request) (t : Table) (s : State) : ((acceptWrite r t s).1).pool = s.pool := rfl
@[simp] theorem acceptWrite_limit (r : Request) (t : Table) (s : State) : ((acceptWrite r t s).1).limit = s.limit := rfl
@[simp] theorem acceptWrite_alerts (r : Request) (t : Table) (s : State) : ((acceptWrite r t s).1).alerts = s.alerts := rfl
@[simp] theorem acceptWrite_counters (r : Request) (t : Table) (s : State) : ((acceptWrite r t s).1).counters = s.counters := rfl
@[simp] theorem acceptWrite_capture (r : Request) (t : Table) (s : State) : ((acceptWrite r t s).1).capture = s.capture := rfl
@[simp] theorem acceptWrite_profile (r : Request) (t : Table) (s : State) : ((acceptWrite r t s).1).profile = s.profile := rfl
@[simp] theorem acceptWrite_startUp (r : Request) (t : Table) (s : State) : ((acceptWrite r t s).1).startUp = s.startUp := rfl
@[simp] theorem acceptWrite_pending (r : Request) (t : Table) (s : State) : ((acceptWrite r t s).1).pending = s.pending := rfl

@[simp] theorem acceptWrite_queue (r : Request) (t : Table) (s : State) : (acceptWrite r t s).1.mgmt.queue = s.mgmt.queue := rfl

@[simp] theorem acceptWrite_locks (r : Request) (t : Table) (s : State) : (acceptWrite r t s).1.mgmt.locks = s.mgmt.locks := rfl

@[simp] theorem standbyWrite_ports (r : Request) (t : Table) (e : Nat → Bank → Option Bank) (s : State) : ((standbyWrite r t e s).1).ports = s.ports := by
  unfold standbyWrite; (repeat' split) <;> simp
@[simp] theorem standbyWrite_slots (r : Request) (t : Table) (e : Nat → Bank → Option Bank) (s : State) : ((standbyWrite r t e s).1).slots = s.slots := by
  unfold standbyWrite; (repeat' split) <;> simp
@[simp] theorem standbyWrite_intake (r : Request) (t : Table) (e : Nat → Bank → Option Bank) (s : State) : ((standbyWrite r t e s).1).intake = s.intake := by
  unfold standbyWrite; (repeat' split) <;> simp
@[simp] theorem standbyWrite_coupling (r : Request) (t : Table) (e : Nat → Bank → Option Bank) (s : State) : ((standbyWrite r t e s).1).coupling = s.coupling := by
  unfold standbyWrite; (repeat' split) <;> simp
@[simp] theorem standbyWrite_pool (r : Request) (t : Table) (e : Nat → Bank → Option Bank) (s : State) : ((standbyWrite r t e s).1).pool = s.pool := by
  unfold standbyWrite; (repeat' split) <;> simp
@[simp] theorem standbyWrite_limit (r : Request) (t : Table) (e : Nat → Bank → Option Bank) (s : State) : ((standbyWrite r t e s).1).limit = s.limit := by
  unfold standbyWrite; (repeat' split) <;> simp
@[simp] theorem standbyWrite_alerts (r : Request) (t : Table) (e : Nat → Bank → Option Bank) (s : State) : ((standbyWrite r t e s).1).alerts = s.alerts := by
  unfold standbyWrite; (repeat' split) <;> simp
@[simp] theorem standbyWrite_counters (r : Request) (t : Table) (e : Nat → Bank → Option Bank) (s : State) : ((standbyWrite r t e s).1).counters = s.counters := by
  unfold standbyWrite; (repeat' split) <;> simp
@[simp] theorem standbyWrite_capture (r : Request) (t : Table) (e : Nat → Bank → Option Bank) (s : State) : ((standbyWrite r t e s).1).capture = s.capture := by
  unfold standbyWrite; (repeat' split) <;> simp
@[simp] theorem standbyWrite_profile (r : Request) (t : Table) (e : Nat → Bank → Option Bank) (s : State) : ((standbyWrite r t e s).1).profile = s.profile := by
  unfold standbyWrite; (repeat' split) <;> simp
@[simp] theorem standbyWrite_startUp (r : Request) (t : Table) (e : Nat → Bank → Option Bank) (s : State) : ((standbyWrite r t e s).1).startUp = s.startUp := by
  unfold standbyWrite; (repeat' split) <;> simp
@[simp] theorem standbyWrite_pending (r : Request) (t : Table) (e : Nat → Bank → Option Bank) (s : State) : ((standbyWrite r t e s).1).pending = s.pending := by
  unfold standbyWrite; (repeat' split) <;> simp

@[simp] theorem standbyWrite_queue (r : Request) (t : Table) (e : Nat → Bank → Option Bank) (s : State) :
    (standbyWrite r t e s).1.mgmt.queue = s.mgmt.queue := by
  unfold standbyWrite; (repeat' split) <;> rfl

@[simp] theorem standbyWrite_locks (r : Request) (t : Table) (e : Nat → Bank → Option Bank) (s : State) :
    (standbyWrite r t e s).1.mgmt.locks = s.mgmt.locks := by
  unfold standbyWrite; (repeat' split) <;> rfl

/-- What an accepted configuration write keeps is what its edit keeps. -/
theorem configWrite_keeps {α : Type} (g : State → α) (r : Request) (t : Table) (e : Nat → State → Option State) (s : State)
    (ha : ∀ u, g (acceptWrite r t u).1 = g u) (he : ∀ i s', e i s = some s' → g s' = g s) :
    g (configWrite r t e s).1 = g s := by
  unfold configWrite
  split
  · rfl
  · split
    · rfl
    · next h => rw [ha, he _ _ h]

/-- What editSlotmap leaves (R22, R23). -/
theorem editSlotmap_keeps {α : Type} (g : State → α) (p : Vector Byte 8) (i : Nat) (s u : State)
    (h : editSlotmap p i s = some u) (hd : ∀ t v, g (detachSlot t v) = g v) (hm : ∀ x v, g (State.setSlots v x) = g v) :
    g u = g s := by
  unfold editSlotmap at h
  simp only [] at h
  split at h
  · simp at h
  · split at h
    · simp_all
    · split at h
      · simp at h
      · simp only [Option.some.injEq] at h
        subst h
        unfold remap
        simp only []
        split
        · rw [hm]
        · rw [hd, hm]

@[simp] theorem writeSlotmap_ports (r : Request) (s : State) : (writeSlotmap r s).1.ports = s.ports :=
  configWrite_keeps (fun s => s.ports) _ _ _ _ (fun _ => rfl) fun _ _ h =>
    editSlotmap_keeps (fun s => s.ports) _ _ _ _ h (fun _ _ => rfl) (fun _ _ => rfl)

@[simp] theorem writeSlotmap_banks (r : Request) (s : State) : (writeSlotmap r s).1.banks = s.banks :=
  configWrite_keeps (fun s => s.banks) _ _ _ _ (fun _ => rfl) fun _ _ h =>
    editSlotmap_keeps (fun s => s.banks) _ _ _ _ h (fun _ _ => rfl) (fun _ _ => rfl)

@[simp] theorem writeSlotmap_coupling (r : Request) (s : State) : (writeSlotmap r s).1.coupling = s.coupling :=
  configWrite_keeps (fun s => s.coupling) _ _ _ _ (fun _ => rfl) fun _ _ h =>
    editSlotmap_keeps (fun s => s.coupling) _ _ _ _ h (fun _ _ => rfl) (fun _ _ => rfl)

@[simp] theorem writeSlotmap_limit (r : Request) (s : State) : (writeSlotmap r s).1.limit = s.limit :=
  configWrite_keeps (fun s => s.limit) _ _ _ _ (fun _ => rfl) fun _ _ h =>
    editSlotmap_keeps (fun s => s.limit) _ _ _ _ h (fun _ _ => rfl) (fun _ _ => rfl)

@[simp] theorem writeSlotmap_counters (r : Request) (s : State) : (writeSlotmap r s).1.counters = s.counters :=
  configWrite_keeps (fun s => s.counters) _ _ _ _ (fun _ => rfl) fun _ _ h =>
    editSlotmap_keeps (fun s => s.counters) _ _ _ _ h (fun _ _ => rfl) (fun _ _ => rfl)

@[simp] theorem writeSlotmap_capture (r : Request) (s : State) : (writeSlotmap r s).1.capture = s.capture :=
  configWrite_keeps (fun s => s.capture) _ _ _ _ (fun _ => rfl) fun _ _ h =>
    editSlotmap_keeps (fun s => s.capture) _ _ _ _ h (fun _ _ => rfl) (fun _ _ => rfl)

@[simp] theorem writeSlotmap_profile (r : Request) (s : State) : (writeSlotmap r s).1.profile = s.profile :=
  configWrite_keeps (fun s => s.profile) _ _ _ _ (fun _ => rfl) fun _ _ h =>
    editSlotmap_keeps (fun s => s.profile) _ _ _ _ h (fun _ _ => rfl) (fun _ _ => rfl)

@[simp] theorem writeSlotmap_startUp (r : Request) (s : State) : (writeSlotmap r s).1.startUp = s.startUp :=
  configWrite_keeps (fun s => s.startUp) _ _ _ _ (fun _ => rfl) fun _ _ h =>
    editSlotmap_keeps (fun s => s.startUp) _ _ _ _ h (fun _ _ => rfl) (fun _ _ => rfl)

@[simp] theorem writeSlotmap_pending (r : Request) (s : State) : (writeSlotmap r s).1.pending = s.pending :=
  configWrite_keeps (fun s => s.pending) _ _ _ _ (fun _ => rfl) fun _ _ h =>
    editSlotmap_keeps (fun s => s.pending) _ _ _ _ h (fun _ _ => rfl) (fun _ _ => rfl)

@[simp] theorem writeSlotmap_queue (r : Request) (s : State) : (writeSlotmap r s).1.mgmt.queue = s.mgmt.queue :=
  configWrite_keeps (fun s => s.mgmt.queue) _ _ _ _ (fun _ => rfl) fun _ _ h =>
    editSlotmap_keeps (fun s => s.mgmt.queue) _ _ _ _ h (fun _ _ => rfl) (fun _ _ => rfl)

@[simp] theorem writeSlotmap_locks (r : Request) (s : State) : (writeSlotmap r s).1.mgmt.locks = s.mgmt.locks :=
  configWrite_keeps (fun s => s.mgmt.locks) _ _ _ _ (fun _ => rfl) fun _ _ h =>
    editSlotmap_keeps (fun s => s.mgmt.locks) _ _ _ _ h (fun _ _ => rfl) (fun _ _ => rfl)

@[simp] theorem writeTargets_ports (r : Request) (s : State) : (writeTargets r s).1.ports = s.ports :=
  configWrite_keeps (fun s => s.ports) _ _ _ _ (fun _ => rfl) fun _ _ h => by
    simp only [Option.some.injEq] at h; subst h; rfl

@[simp] theorem writeTargets_intake (r : Request) (s : State) : (writeTargets r s).1.intake = s.intake :=
  configWrite_keeps (fun s => s.intake) _ _ _ _ (fun _ => rfl) fun _ _ h => by
    simp only [Option.some.injEq] at h; subst h; rfl

@[simp] theorem writeTargets_banks (r : Request) (s : State) : (writeTargets r s).1.banks = s.banks :=
  configWrite_keeps (fun s => s.banks) _ _ _ _ (fun _ => rfl) fun _ _ h => by
    simp only [Option.some.injEq] at h; subst h; rfl

@[simp] theorem writeTargets_coupling (r : Request) (s : State) : (writeTargets r s).1.coupling = s.coupling :=
  configWrite_keeps (fun s => s.coupling) _ _ _ _ (fun _ => rfl) fun _ _ h => by
    simp only [Option.some.injEq] at h; subst h; rfl

@[simp] theorem writeTargets_pool (r : Request) (s : State) : (writeTargets r s).1.pool = s.pool :=
  configWrite_keeps (fun s => s.pool) _ _ _ _ (fun _ => rfl) fun _ _ h => by
    simp only [Option.some.injEq] at h; subst h; rfl

@[simp] theorem writeTargets_limit (r : Request) (s : State) : (writeTargets r s).1.limit = s.limit :=
  configWrite_keeps (fun s => s.limit) _ _ _ _ (fun _ => rfl) fun _ _ h => by
    simp only [Option.some.injEq] at h; subst h; rfl

@[simp] theorem writeTargets_alerts (r : Request) (s : State) : (writeTargets r s).1.alerts = s.alerts :=
  configWrite_keeps (fun s => s.alerts) _ _ _ _ (fun _ => rfl) fun _ _ h => by
    simp only [Option.some.injEq] at h; subst h; rfl

@[simp] theorem writeTargets_counters (r : Request) (s : State) : (writeTargets r s).1.counters = s.counters :=
  configWrite_keeps (fun s => s.counters) _ _ _ _ (fun _ => rfl) fun _ _ h => by
    simp only [Option.some.injEq] at h; subst h; rfl

@[simp] theorem writeTargets_capture (r : Request) (s : State) : (writeTargets r s).1.capture = s.capture :=
  configWrite_keeps (fun s => s.capture) _ _ _ _ (fun _ => rfl) fun _ _ h => by
    simp only [Option.some.injEq] at h; subst h; rfl

@[simp] theorem writeTargets_profile (r : Request) (s : State) : (writeTargets r s).1.profile = s.profile :=
  configWrite_keeps (fun s => s.profile) _ _ _ _ (fun _ => rfl) fun _ _ h => by
    simp only [Option.some.injEq] at h; subst h; rfl

@[simp] theorem writeTargets_startUp (r : Request) (s : State) : (writeTargets r s).1.startUp = s.startUp :=
  configWrite_keeps (fun s => s.startUp) _ _ _ _ (fun _ => rfl) fun _ _ h => by
    simp only [Option.some.injEq] at h; subst h; rfl

@[simp] theorem writeTargets_pending (r : Request) (s : State) : (writeTargets r s).1.pending = s.pending :=
  configWrite_keeps (fun s => s.pending) _ _ _ _ (fun _ => rfl) fun _ _ h => by
    simp only [Option.some.injEq] at h; subst h; rfl

@[simp] theorem writeTargets_queue (r : Request) (s : State) : (writeTargets r s).1.mgmt.queue = s.mgmt.queue :=
  configWrite_keeps (fun s => s.mgmt.queue) _ _ _ _ (fun _ => rfl) fun _ _ h => by
    simp only [Option.some.injEq] at h; subst h; rfl

@[simp] theorem writeTargets_locks (r : Request) (s : State) : (writeTargets r s).1.mgmt.locks = s.mgmt.locks :=
  configWrite_keeps (fun s => s.mgmt.locks) _ _ _ _ (fun _ => rfl) fun _ _ h => by
    simp only [Option.some.injEq] at h; subst h; rfl

@[simp] theorem writeMutes_ports (r : Request) (s : State) : (writeMutes r s).1.ports = s.ports :=
  configWrite_keeps (fun s => s.ports) _ _ _ _ (fun _ => rfl) fun _ _ h => by
    simp only [Option.some.injEq] at h; subst h; rfl

@[simp] theorem writeMutes_slots (r : Request) (s : State) : (writeMutes r s).1.slots = s.slots :=
  configWrite_keeps (fun s => s.slots) _ _ _ _ (fun _ => rfl) fun _ _ h => by
    simp only [Option.some.injEq] at h; subst h; rfl

@[simp] theorem writeMutes_intake (r : Request) (s : State) : (writeMutes r s).1.intake = s.intake :=
  configWrite_keeps (fun s => s.intake) _ _ _ _ (fun _ => rfl) fun _ _ h => by
    simp only [Option.some.injEq] at h; subst h; rfl

@[simp] theorem writeMutes_banks (r : Request) (s : State) : (writeMutes r s).1.banks = s.banks :=
  configWrite_keeps (fun s => s.banks) _ _ _ _ (fun _ => rfl) fun _ _ h => by
    simp only [Option.some.injEq] at h; subst h; rfl

@[simp] theorem writeMutes_coupling (r : Request) (s : State) : (writeMutes r s).1.coupling = s.coupling :=
  configWrite_keeps (fun s => s.coupling) _ _ _ _ (fun _ => rfl) fun _ _ h => by
    simp only [Option.some.injEq] at h; subst h; rfl

@[simp] theorem writeMutes_pool (r : Request) (s : State) : (writeMutes r s).1.pool = s.pool :=
  configWrite_keeps (fun s => s.pool) _ _ _ _ (fun _ => rfl) fun _ _ h => by
    simp only [Option.some.injEq] at h; subst h; rfl

@[simp] theorem writeMutes_alerts (r : Request) (s : State) : (writeMutes r s).1.alerts = s.alerts :=
  configWrite_keeps (fun s => s.alerts) _ _ _ _ (fun _ => rfl) fun _ _ h => by
    simp only [Option.some.injEq] at h; subst h; rfl

@[simp] theorem writeMutes_counters (r : Request) (s : State) : (writeMutes r s).1.counters = s.counters :=
  configWrite_keeps (fun s => s.counters) _ _ _ _ (fun _ => rfl) fun _ _ h => by
    simp only [Option.some.injEq] at h; subst h; rfl

@[simp] theorem writeMutes_capture (r : Request) (s : State) : (writeMutes r s).1.capture = s.capture :=
  configWrite_keeps (fun s => s.capture) _ _ _ _ (fun _ => rfl) fun _ _ h => by
    simp only [Option.some.injEq] at h; subst h; rfl

@[simp] theorem writeMutes_profile (r : Request) (s : State) : (writeMutes r s).1.profile = s.profile :=
  configWrite_keeps (fun s => s.profile) _ _ _ _ (fun _ => rfl) fun _ _ h => by
    simp only [Option.some.injEq] at h; subst h; rfl

@[simp] theorem writeMutes_startUp (r : Request) (s : State) : (writeMutes r s).1.startUp = s.startUp :=
  configWrite_keeps (fun s => s.startUp) _ _ _ _ (fun _ => rfl) fun _ _ h => by
    simp only [Option.some.injEq] at h; subst h; rfl

@[simp] theorem writeMutes_pending (r : Request) (s : State) : (writeMutes r s).1.pending = s.pending :=
  configWrite_keeps (fun s => s.pending) _ _ _ _ (fun _ => rfl) fun _ _ h => by
    simp only [Option.some.injEq] at h; subst h; rfl

@[simp] theorem writeMutes_queue (r : Request) (s : State) : (writeMutes r s).1.mgmt.queue = s.mgmt.queue :=
  configWrite_keeps (fun s => s.mgmt.queue) _ _ _ _ (fun _ => rfl) fun _ _ h => by
    simp only [Option.some.injEq] at h; subst h; rfl

@[simp] theorem writeMutes_locks (r : Request) (s : State) : (writeMutes r s).1.mgmt.locks = s.mgmt.locks :=
  configWrite_keeps (fun s => s.mgmt.locks) _ _ _ _ (fun _ => rfl) fun _ _ h => by
    simp only [Option.some.injEq] at h; subst h; rfl

@[simp] theorem writeLimits_ports (r : Request) (s : State) : (writeLimits r s).1.ports = s.ports :=
  configWrite_keeps (fun s => s.ports) _ _ _ _ (fun _ => rfl) fun _ _ h => by
    unfold editLimits at h; simp only [] at h; split at h <;> simp at h; subst h; rfl

@[simp] theorem writeLimits_slots (r : Request) (s : State) : (writeLimits r s).1.slots = s.slots :=
  configWrite_keeps (fun s => s.slots) _ _ _ _ (fun _ => rfl) fun _ _ h => by
    unfold editLimits at h; simp only [] at h; split at h <;> simp at h; subst h; rfl

@[simp] theorem writeLimits_intake (r : Request) (s : State) : (writeLimits r s).1.intake = s.intake :=
  configWrite_keeps (fun s => s.intake) _ _ _ _ (fun _ => rfl) fun _ _ h => by
    unfold editLimits at h; simp only [] at h; split at h <;> simp at h; subst h; rfl

@[simp] theorem writeLimits_banks (r : Request) (s : State) : (writeLimits r s).1.banks = s.banks :=
  configWrite_keeps (fun s => s.banks) _ _ _ _ (fun _ => rfl) fun _ _ h => by
    unfold editLimits at h; simp only [] at h; split at h <;> simp at h; subst h; rfl

@[simp] theorem writeLimits_coupling (r : Request) (s : State) : (writeLimits r s).1.coupling = s.coupling :=
  configWrite_keeps (fun s => s.coupling) _ _ _ _ (fun _ => rfl) fun _ _ h => by
    unfold editLimits at h; simp only [] at h; split at h <;> simp at h; subst h; rfl

@[simp] theorem writeLimits_pool (r : Request) (s : State) : (writeLimits r s).1.pool = s.pool :=
  configWrite_keeps (fun s => s.pool) _ _ _ _ (fun _ => rfl) fun _ _ h => by
    unfold editLimits at h; simp only [] at h; split at h <;> simp at h; subst h; rfl

@[simp] theorem writeLimits_alerts (r : Request) (s : State) : (writeLimits r s).1.alerts = s.alerts :=
  configWrite_keeps (fun s => s.alerts) _ _ _ _ (fun _ => rfl) fun _ _ h => by
    unfold editLimits at h; simp only [] at h; split at h <;> simp at h; subst h; rfl

@[simp] theorem writeLimits_counters (r : Request) (s : State) : (writeLimits r s).1.counters = s.counters :=
  configWrite_keeps (fun s => s.counters) _ _ _ _ (fun _ => rfl) fun _ _ h => by
    unfold editLimits at h; simp only [] at h; split at h <;> simp at h; subst h; rfl

@[simp] theorem writeLimits_capture (r : Request) (s : State) : (writeLimits r s).1.capture = s.capture :=
  configWrite_keeps (fun s => s.capture) _ _ _ _ (fun _ => rfl) fun _ _ h => by
    unfold editLimits at h; simp only [] at h; split at h <;> simp at h; subst h; rfl

@[simp] theorem writeLimits_profile (r : Request) (s : State) : (writeLimits r s).1.profile = s.profile :=
  configWrite_keeps (fun s => s.profile) _ _ _ _ (fun _ => rfl) fun _ _ h => by
    unfold editLimits at h; simp only [] at h; split at h <;> simp at h; subst h; rfl

@[simp] theorem writeLimits_startUp (r : Request) (s : State) : (writeLimits r s).1.startUp = s.startUp :=
  configWrite_keeps (fun s => s.startUp) _ _ _ _ (fun _ => rfl) fun _ _ h => by
    unfold editLimits at h; simp only [] at h; split at h <;> simp at h; subst h; rfl

@[simp] theorem writeLimits_pending (r : Request) (s : State) : (writeLimits r s).1.pending = s.pending :=
  configWrite_keeps (fun s => s.pending) _ _ _ _ (fun _ => rfl) fun _ _ h => by
    unfold editLimits at h; simp only [] at h; split at h <;> simp at h; subst h; rfl

@[simp] theorem writeLimits_queue (r : Request) (s : State) : (writeLimits r s).1.mgmt.queue = s.mgmt.queue :=
  configWrite_keeps (fun s => s.mgmt.queue) _ _ _ _ (fun _ => rfl) fun _ _ h => by
    unfold editLimits at h; simp only [] at h; split at h <;> simp at h; subst h; rfl

@[simp] theorem writeLimits_locks (r : Request) (s : State) : (writeLimits r s).1.mgmt.locks = s.mgmt.locks :=
  configWrite_keeps (fun s => s.mgmt.locks) _ _ _ _ (fun _ => rfl) fun _ _ h => by
    unfold editLimits at h; simp only [] at h; split at h <;> simp at h; subst h; rfl

@[simp] theorem writeAlertmap_ports (r : Request) (s : State) : (writeAlertmap r s).1.ports = s.ports :=
  configWrite_keeps (fun s => s.ports) _ _ _ _ (fun _ => rfl) fun _ _ h => by
    unfold editAlertmap at h; simp only [Option.map_eq_some_iff] at h; obtain ⟨_, _, rfl⟩ := h; rfl

@[simp] theorem writeAlertmap_slots (r : Request) (s : State) : (writeAlertmap r s).1.slots = s.slots :=
  configWrite_keeps (fun s => s.slots) _ _ _ _ (fun _ => rfl) fun _ _ h => by
    unfold editAlertmap at h; simp only [Option.map_eq_some_iff] at h; obtain ⟨_, _, rfl⟩ := h; rfl

@[simp] theorem writeAlertmap_intake (r : Request) (s : State) : (writeAlertmap r s).1.intake = s.intake :=
  configWrite_keeps (fun s => s.intake) _ _ _ _ (fun _ => rfl) fun _ _ h => by
    unfold editAlertmap at h; simp only [Option.map_eq_some_iff] at h; obtain ⟨_, _, rfl⟩ := h; rfl

@[simp] theorem writeAlertmap_banks (r : Request) (s : State) : (writeAlertmap r s).1.banks = s.banks :=
  configWrite_keeps (fun s => s.banks) _ _ _ _ (fun _ => rfl) fun _ _ h => by
    unfold editAlertmap at h; simp only [Option.map_eq_some_iff] at h; obtain ⟨_, _, rfl⟩ := h; rfl

@[simp] theorem writeAlertmap_coupling (r : Request) (s : State) : (writeAlertmap r s).1.coupling = s.coupling :=
  configWrite_keeps (fun s => s.coupling) _ _ _ _ (fun _ => rfl) fun _ _ h => by
    unfold editAlertmap at h; simp only [Option.map_eq_some_iff] at h; obtain ⟨_, _, rfl⟩ := h; rfl

@[simp] theorem writeAlertmap_pool (r : Request) (s : State) : (writeAlertmap r s).1.pool = s.pool :=
  configWrite_keeps (fun s => s.pool) _ _ _ _ (fun _ => rfl) fun _ _ h => by
    unfold editAlertmap at h; simp only [Option.map_eq_some_iff] at h; obtain ⟨_, _, rfl⟩ := h; rfl

@[simp] theorem writeAlertmap_limit (r : Request) (s : State) : (writeAlertmap r s).1.limit = s.limit :=
  configWrite_keeps (fun s => s.limit) _ _ _ _ (fun _ => rfl) fun _ _ h => by
    unfold editAlertmap at h; simp only [Option.map_eq_some_iff] at h; obtain ⟨_, _, rfl⟩ := h; rfl

@[simp] theorem writeAlertmap_counters (r : Request) (s : State) : (writeAlertmap r s).1.counters = s.counters :=
  configWrite_keeps (fun s => s.counters) _ _ _ _ (fun _ => rfl) fun _ _ h => by
    unfold editAlertmap at h; simp only [Option.map_eq_some_iff] at h; obtain ⟨_, _, rfl⟩ := h; rfl

@[simp] theorem writeAlertmap_capture (r : Request) (s : State) : (writeAlertmap r s).1.capture = s.capture :=
  configWrite_keeps (fun s => s.capture) _ _ _ _ (fun _ => rfl) fun _ _ h => by
    unfold editAlertmap at h; simp only [Option.map_eq_some_iff] at h; obtain ⟨_, _, rfl⟩ := h; rfl

@[simp] theorem writeAlertmap_profile (r : Request) (s : State) : (writeAlertmap r s).1.profile = s.profile :=
  configWrite_keeps (fun s => s.profile) _ _ _ _ (fun _ => rfl) fun _ _ h => by
    unfold editAlertmap at h; simp only [Option.map_eq_some_iff] at h; obtain ⟨_, _, rfl⟩ := h; rfl

@[simp] theorem writeAlertmap_startUp (r : Request) (s : State) : (writeAlertmap r s).1.startUp = s.startUp :=
  configWrite_keeps (fun s => s.startUp) _ _ _ _ (fun _ => rfl) fun _ _ h => by
    unfold editAlertmap at h; simp only [Option.map_eq_some_iff] at h; obtain ⟨_, _, rfl⟩ := h; rfl

@[simp] theorem writeAlertmap_pending (r : Request) (s : State) : (writeAlertmap r s).1.pending = s.pending :=
  configWrite_keeps (fun s => s.pending) _ _ _ _ (fun _ => rfl) fun _ _ h => by
    unfold editAlertmap at h; simp only [Option.map_eq_some_iff] at h; obtain ⟨_, _, rfl⟩ := h; rfl

@[simp] theorem writeAlertmap_queue (r : Request) (s : State) : (writeAlertmap r s).1.mgmt.queue = s.mgmt.queue :=
  configWrite_keeps (fun s => s.mgmt.queue) _ _ _ _ (fun _ => rfl) fun _ _ h => by
    unfold editAlertmap at h; simp only [Option.map_eq_some_iff] at h; obtain ⟨_, _, rfl⟩ := h; rfl

@[simp] theorem writeAlertmap_locks (r : Request) (s : State) : (writeAlertmap r s).1.mgmt.locks = s.mgmt.locks :=
  configWrite_keeps (fun s => s.mgmt.locks) _ _ _ _ (fun _ => rfl) fun _ _ h => by
    unfold editAlertmap at h; simp only [Option.map_eq_some_iff] at h; obtain ⟨_, _, rfl⟩ := h; rfl

@[simp] theorem decideData_ports (r : Request) (s : State) : ((decideData r s).1).ports = s.ports := by
  unfold decideData; simp only []; (repeat' split) <;> simp [writeCtAdd, writeCtReplace, writeKernelAdd, writeKernelReplace, writeTemplate]
@[simp] theorem decideData_coupling (r : Request) (s : State) : ((decideData r s).1).coupling = s.coupling := by
  unfold decideData; simp only []; (repeat' split) <;> simp [writeCtAdd, writeCtReplace, writeKernelAdd, writeKernelReplace, writeTemplate]
@[simp] theorem decideData_counters (r : Request) (s : State) : ((decideData r s).1).counters = s.counters := by
  unfold decideData; simp only []; (repeat' split) <;> simp [writeCtAdd, writeCtReplace, writeKernelAdd, writeKernelReplace, writeTemplate]
@[simp] theorem decideData_capture (r : Request) (s : State) : ((decideData r s).1).capture = s.capture := by
  unfold decideData; simp only []; (repeat' split) <;> simp [writeCtAdd, writeCtReplace, writeKernelAdd, writeKernelReplace, writeTemplate]
@[simp] theorem decideData_profile (r : Request) (s : State) : ((decideData r s).1).profile = s.profile := by
  unfold decideData; simp only []; (repeat' split) <;> simp [writeCtAdd, writeCtReplace, writeKernelAdd, writeKernelReplace, writeTemplate]
@[simp] theorem decideData_startUp (r : Request) (s : State) : ((decideData r s).1).startUp = s.startUp := by
  unfold decideData; simp only []; (repeat' split) <;> simp [writeCtAdd, writeCtReplace, writeKernelAdd, writeKernelReplace, writeTemplate]
@[simp] theorem decideData_pending (r : Request) (s : State) : ((decideData r s).1).pending = s.pending := by
  unfold decideData; simp only []; (repeat' split) <;> simp [writeCtAdd, writeCtReplace, writeKernelAdd, writeKernelReplace, writeTemplate]

@[simp] theorem decideData_queue (r : Request) (s : State) : (decideData r s).1.mgmt.queue = s.mgmt.queue := by
  unfold decideData
  simp only []
  (repeat' split) <;> simp [writeCtAdd, writeCtReplace, writeKernelAdd, writeKernelReplace, writeTemplate]

@[simp] theorem decideData_locks (r : Request) (s : State) : (decideData r s).1.mgmt.locks = s.mgmt.locks := by
  unfold decideData
  simp only []
  (repeat' split) <;> simp [writeCtAdd, writeCtReplace, writeKernelAdd, writeKernelReplace, writeTemplate]

@[simp] theorem answerRead_ports (t : Table) (r : Request) (s : State) : ((answerRead t r s).1).ports = s.ports := by
  unfold answerRead; simp only []; (repeat' split) <;> simp
@[simp] theorem answerRead_slots (t : Table) (r : Request) (s : State) : ((answerRead t r s).1).slots = s.slots := by
  unfold answerRead; simp only []; (repeat' split) <;> simp
@[simp] theorem answerRead_intake (t : Table) (r : Request) (s : State) : ((answerRead t r s).1).intake = s.intake := by
  unfold answerRead; simp only []; (repeat' split) <;> simp
@[simp] theorem answerRead_banks (t : Table) (r : Request) (s : State) : ((answerRead t r s).1).banks = s.banks := by
  unfold answerRead; simp only []; (repeat' split) <;> simp
@[simp] theorem answerRead_coupling (t : Table) (r : Request) (s : State) : ((answerRead t r s).1).coupling = s.coupling := by
  unfold answerRead; simp only []; (repeat' split) <;> simp
@[simp] theorem answerRead_pool (t : Table) (r : Request) (s : State) : ((answerRead t r s).1).pool = s.pool := by
  unfold answerRead; simp only []; (repeat' split) <;> simp
@[simp] theorem answerRead_limit (t : Table) (r : Request) (s : State) : ((answerRead t r s).1).limit = s.limit := by
  unfold answerRead; simp only []; (repeat' split) <;> simp
@[simp] theorem answerRead_alerts (t : Table) (r : Request) (s : State) : ((answerRead t r s).1).alerts = s.alerts := by
  unfold answerRead; simp only []; (repeat' split) <;> simp
@[simp] theorem answerRead_counters (t : Table) (r : Request) (s : State) : ((answerRead t r s).1).counters = s.counters := by
  unfold answerRead; simp only []; (repeat' split) <;> simp
@[simp] theorem answerRead_capture (t : Table) (r : Request) (s : State) : ((answerRead t r s).1).capture = s.capture := by
  unfold answerRead; simp only []; (repeat' split) <;> simp
@[simp] theorem answerRead_profile (t : Table) (r : Request) (s : State) : ((answerRead t r s).1).profile = s.profile := by
  unfold answerRead; simp only []; (repeat' split) <;> simp
@[simp] theorem answerRead_startUp (t : Table) (r : Request) (s : State) : ((answerRead t r s).1).startUp = s.startUp := by
  unfold answerRead; simp only []; (repeat' split) <;> simp
@[simp] theorem answerRead_pending (t : Table) (r : Request) (s : State) : ((answerRead t r s).1).pending = s.pending := by
  unfold answerRead; simp only []; (repeat' split) <;> simp

@[simp] theorem answerRead_queue (t : Table) (r : Request) (s : State) : (answerRead t r s).1.mgmt.queue = s.mgmt.queue := by
  unfold answerRead; simp only []; split <;> rfl

@[simp] theorem answerRead_locks (t : Table) (r : Request) (s : State) : (answerRead t r s).1.mgmt.locks = s.mgmt.locks := by
  unfold answerRead; simp only []; split <;> rfl

@[simp] theorem readCounter_ports (r : Request) (s : State) : ((readCounter r s).1).ports = s.ports := by simp [readCounter]
@[simp] theorem readCounter_slots (r : Request) (s : State) : ((readCounter r s).1).slots = s.slots := by simp [readCounter]
@[simp] theorem readCounter_intake (r : Request) (s : State) : ((readCounter r s).1).intake = s.intake := by simp [readCounter]
@[simp] theorem readCounter_banks (r : Request) (s : State) : ((readCounter r s).1).banks = s.banks := by simp [readCounter]
@[simp] theorem readCounter_coupling (r : Request) (s : State) : ((readCounter r s).1).coupling = s.coupling := by simp [readCounter]
@[simp] theorem readCounter_pool (r : Request) (s : State) : ((readCounter r s).1).pool = s.pool := by simp [readCounter]
@[simp] theorem readCounter_limit (r : Request) (s : State) : ((readCounter r s).1).limit = s.limit := by simp [readCounter]
@[simp] theorem readCounter_alerts (r : Request) (s : State) : ((readCounter r s).1).alerts = s.alerts := by simp [readCounter]
@[simp] theorem readCounter_capture (r : Request) (s : State) : ((readCounter r s).1).capture = s.capture := by simp [readCounter]
@[simp] theorem readCounter_profile (r : Request) (s : State) : ((readCounter r s).1).profile = s.profile := by simp [readCounter]
@[simp] theorem readCounter_startUp (r : Request) (s : State) : ((readCounter r s).1).startUp = s.startUp := by simp [readCounter]
@[simp] theorem readCounter_pending (r : Request) (s : State) : ((readCounter r s).1).pending = s.pending := by simp [readCounter]

@[simp] theorem readCounter_queue (r : Request) (s : State) : (readCounter r s).1.mgmt.queue = s.mgmt.queue := by
  simp [readCounter]

@[simp] theorem readCounter_locks (r : Request) (s : State) : (readCounter r s).1.mgmt.locks = s.mgmt.locks := by
  simp [readCounter]

@[simp] theorem decideRead_ports (r : Request) (s : State) : ((decideRead r s).1).ports = s.ports := by
  unfold decideRead; simp only []; (repeat' split) <;> simp
@[simp] theorem decideRead_slots (r : Request) (s : State) : ((decideRead r s).1).slots = s.slots := by
  unfold decideRead; simp only []; (repeat' split) <;> simp
@[simp] theorem decideRead_intake (r : Request) (s : State) : ((decideRead r s).1).intake = s.intake := by
  unfold decideRead; simp only []; (repeat' split) <;> simp
@[simp] theorem decideRead_banks (r : Request) (s : State) : ((decideRead r s).1).banks = s.banks := by
  unfold decideRead; simp only []; (repeat' split) <;> simp
@[simp] theorem decideRead_coupling (r : Request) (s : State) : ((decideRead r s).1).coupling = s.coupling := by
  unfold decideRead; simp only []; (repeat' split) <;> simp
@[simp] theorem decideRead_pool (r : Request) (s : State) : ((decideRead r s).1).pool = s.pool := by
  unfold decideRead; simp only []; (repeat' split) <;> simp
@[simp] theorem decideRead_limit (r : Request) (s : State) : ((decideRead r s).1).limit = s.limit := by
  unfold decideRead; simp only []; (repeat' split) <;> simp
@[simp] theorem decideRead_alerts (r : Request) (s : State) : ((decideRead r s).1).alerts = s.alerts := by
  unfold decideRead; simp only []; (repeat' split) <;> simp
@[simp] theorem decideRead_capture (r : Request) (s : State) : ((decideRead r s).1).capture = s.capture := by
  unfold decideRead; simp only []; (repeat' split) <;> simp
@[simp] theorem decideRead_profile (r : Request) (s : State) : ((decideRead r s).1).profile = s.profile := by
  unfold decideRead; simp only []; (repeat' split) <;> simp
@[simp] theorem decideRead_startUp (r : Request) (s : State) : ((decideRead r s).1).startUp = s.startUp := by
  unfold decideRead; simp only []; (repeat' split) <;> simp
@[simp] theorem decideRead_pending (r : Request) (s : State) : ((decideRead r s).1).pending = s.pending := by
  unfold decideRead; simp only []; (repeat' split) <;> simp

@[simp] theorem decideRead_queue (r : Request) (s : State) : (decideRead r s).1.mgmt.queue = s.mgmt.queue := by
  unfold decideRead; simp only []; (repeat' split) <;> simp

@[simp] theorem decideRead_locks (r : Request) (s : State) : (decideRead r s).1.mgmt.locks = s.mgmt.locks := by
  unfold decideRead; simp only []; (repeat' split) <;> simp

end Sys2Proof.Machine
end

