-- ==== Sys2Proof/Laws/Loop.lean ====
section
/-! SUPPORT. What the Loop Ports' operations and the resets leave as it was, and the walks over cells by induction. -/

namespace Sys2Proof.Machine

@[simp] theorem cutPassage_slots (s : State) : (cutPassage s).slots = s.slots := by
  unfold cutPassage; split <;> rfl
@[simp] theorem cutPassage_intake (s : State) : (cutPassage s).intake = s.intake := by
  unfold cutPassage; split <;> rfl
@[simp] theorem cutPassage_banks (s : State) : (cutPassage s).banks = s.banks := by
  unfold cutPassage; split <;> rfl
@[simp] theorem cutPassage_coupling (s : State) : (cutPassage s).coupling = s.coupling := by
  unfold cutPassage; split <;> rfl
@[simp] theorem cutPassage_pool (s : State) : (cutPassage s).pool = s.pool := by
  unfold cutPassage; split <;> rfl
@[simp] theorem cutPassage_limit (s : State) : (cutPassage s).limit = s.limit := by
  unfold cutPassage; split <;> rfl
@[simp] theorem cutPassage_mgmt (s : State) : (cutPassage s).mgmt = s.mgmt := by
  unfold cutPassage; split <;> rfl
@[simp] theorem cutPassage_alerts (s : State) : (cutPassage s).alerts = s.alerts := by
  unfold cutPassage; split <;> rfl
@[simp] theorem cutPassage_counters (s : State) : (cutPassage s).counters = s.counters := by
  unfold cutPassage; split <;> rfl
@[simp] theorem cutPassage_capture (s : State) : (cutPassage s).capture = s.capture := by
  unfold cutPassage; split <;> rfl
@[simp] theorem cutPassage_profile (s : State) : (cutPassage s).profile = s.profile := by
  unfold cutPassage; split <;> rfl
@[simp] theorem cutPassage_startUp (s : State) : (cutPassage s).startUp = s.startUp := by
  unfold cutPassage; split <;> rfl
@[simp] theorem cutPassage_pending (s : State) : (cutPassage s).pending = s.pending := by
  unfold cutPassage; split <;> rfl

@[simp] theorem acquireLock_slots (f : Frame) (s : State) : (acquireLock f s).slots = s.slots := rfl
@[simp] theorem acquireLock_intake (f : Frame) (s : State) : (acquireLock f s).intake = s.intake := rfl
@[simp] theorem acquireLock_banks (f : Frame) (s : State) : (acquireLock f s).banks = s.banks := rfl
@[simp] theorem acquireLock_coupling (f : Frame) (s : State) : (acquireLock f s).coupling = s.coupling := rfl
@[simp] theorem acquireLock_pool (f : Frame) (s : State) : (acquireLock f s).pool = s.pool := rfl
@[simp] theorem acquireLock_limit (f : Frame) (s : State) : (acquireLock f s).limit = s.limit := rfl
@[simp] theorem acquireLock_mgmt (f : Frame) (s : State) : (acquireLock f s).mgmt = s.mgmt := rfl
@[simp] theorem acquireLock_counters (f : Frame) (s : State) : (acquireLock f s).counters = s.counters := rfl
@[simp] theorem acquireLock_capture (f : Frame) (s : State) : (acquireLock f s).capture = s.capture := rfl
@[simp] theorem acquireLock_profile (f : Frame) (s : State) : (acquireLock f s).profile = s.profile := rfl
@[simp] theorem acquireLock_startUp (f : Frame) (s : State) : (acquireLock f s).startUp = s.startUp := rfl
@[simp] theorem acquireLock_pending (f : Frame) (s : State) : (acquireLock f s).pending = s.pending := rfl

@[simp] theorem profileLoad_ports (s : State) : (profileLoad s).ports = s.ports := by
  unfold profileLoad; split <;> rfl
@[simp] theorem profileLoad_intake (s : State) : (profileLoad s).intake = s.intake := by
  unfold profileLoad; split <;> rfl
@[simp] theorem profileLoad_coupling (s : State) : (profileLoad s).coupling = s.coupling := by
  unfold profileLoad; split <;> rfl
@[simp] theorem profileLoad_pool (s : State) : (profileLoad s).pool = s.pool := by
  unfold profileLoad; split <;> rfl
@[simp] theorem profileLoad_mgmt (s : State) : (profileLoad s).mgmt = s.mgmt := by
  unfold profileLoad; split <;> rfl
@[simp] theorem profileLoad_counters (s : State) : (profileLoad s).counters = s.counters := by
  unfold profileLoad; split <;> rfl
@[simp] theorem profileLoad_capture (s : State) : (profileLoad s).capture = s.capture := by
  unfold profileLoad; split <;> rfl
@[simp] theorem profileLoad_startUp (s : State) : (profileLoad s).startUp = s.startUp := by
  unfold profileLoad; split <;> rfl
@[simp] theorem profileLoad_pending (s : State) : (profileLoad s).pending = s.pending := by
  unfold profileLoad; split <;> rfl

@[simp] theorem coldStart_pending (u : StartUp) (s : State) : (coldStart u s).pending = s.pending := by simp [coldStart, blankPart]

@[simp] theorem fullReset_pending (s : State) : (fullReset s).pending = s.pending := by simp [fullReset]

@[simp] theorem powerUpSequence_pending (x : Straps) (s : State) : (powerUpSequence x s).pending = s.pending := by simp [powerUpSequence]

@[simp] theorem warmActions_pending (k : ResetReason) (c : PortCondition) (s : State) : (warmActions k c s).pending = s.pending := rfl

@[simp] theorem beginReset_pending (k : Option ResetKind) (s : State) : (beginReset k s).pending = s.pending := by
  unfold beginReset; split <;> simp

@[simp] theorem beginReset_none (s : State) : beginReset none s = s := rfl

/-- With no RESET taken in it, a passage that ends by a cut is cut. -/
theorem endPassage_of_none (s : State) (h : passageReset s = none) : endPassage s = cutPassage s := by
  simp [endPassage, h, beginReset]

/-- With nothing in composition there is nothing to cut. -/
theorem endPassage_quiet (s : State) (h : s.ports.composing = none) : endPassage s = s := by
  simp [endPassage, passageReset, cutPassage, h, beginReset]

@[simp] theorem endPassage_pending (s : State) : (endPassage s).pending = s.pending := by simp [endPassage]

@[simp] theorem loseLock_slots (s : State) : (loseLock s).slots = (endPassage s).slots := by simp [loseLock]
@[simp] theorem loseLock_banks (s : State) : (loseLock s).banks = (endPassage s).banks := by simp [loseLock]
@[simp] theorem loseLock_limit (s : State) : (loseLock s).limit = (endPassage s).limit := by simp [loseLock]
@[simp] theorem loseLock_mgmt (s : State) : (loseLock s).mgmt = (endPassage s).mgmt := by simp [loseLock]
@[simp] theorem loseLock_alerts (s : State) : (loseLock s).alerts = (endPassage s).alerts := by simp [loseLock]
@[simp] theorem loseLock_counters (s : State) : (loseLock s).counters = (endPassage s).counters := by simp [loseLock]
@[simp] theorem loseLock_profile (s : State) : (loseLock s).profile = (endPassage s).profile := by simp [loseLock]
@[simp] theorem loseLock_startUp (s : State) : (loseLock s).startUp = (endPassage s).startUp := by simp [loseLock]
@[simp] theorem loseLock_pending (s : State) : (loseLock s).pending = s.pending := by simp [loseLock]

@[simp] theorem forwardOutbound_slots (f : Frame) (s : State) : (forwardOutbound f s).slots = s.slots := rfl
@[simp] theorem forwardOutbound_intake (f : Frame) (s : State) : (forwardOutbound f s).intake = s.intake := rfl
@[simp] theorem forwardOutbound_banks (f : Frame) (s : State) : (forwardOutbound f s).banks = s.banks := rfl
@[simp] theorem forwardOutbound_coupling (f : Frame) (s : State) : (forwardOutbound f s).coupling = s.coupling := rfl
@[simp] theorem forwardOutbound_pool (f : Frame) (s : State) : (forwardOutbound f s).pool = s.pool := rfl
@[simp] theorem forwardOutbound_limit (f : Frame) (s : State) : (forwardOutbound f s).limit = s.limit := rfl
@[simp] theorem forwardOutbound_mgmt (f : Frame) (s : State) : (forwardOutbound f s).mgmt = s.mgmt := rfl
@[simp] theorem forwardOutbound_alerts (f : Frame) (s : State) : (forwardOutbound f s).alerts = s.alerts := rfl
@[simp] theorem forwardOutbound_counters (f : Frame) (s : State) : (forwardOutbound f s).counters = s.counters := rfl
@[simp] theorem forwardOutbound_capture (f : Frame) (s : State) : (forwardOutbound f s).capture = s.capture := rfl
@[simp] theorem forwardOutbound_profile (f : Frame) (s : State) : (forwardOutbound f s).profile = s.profile := rfl
@[simp] theorem forwardOutbound_startUp (f : Frame) (s : State) : (forwardOutbound f s).startUp = s.startUp := rfl
@[simp] theorem forwardOutbound_pending (f : Frame) (s : State) : (forwardOutbound f s).pending = s.pending := rfl

@[simp] theorem forwardReturn_slots (f : Frame) (s : State) : (forwardReturn f s).slots = s.slots := rfl
@[simp] theorem forwardReturn_intake (f : Frame) (s : State) : (forwardReturn f s).intake = s.intake := rfl
@[simp] theorem forwardReturn_banks (f : Frame) (s : State) : (forwardReturn f s).banks = s.banks := rfl
@[simp] theorem forwardReturn_coupling (f : Frame) (s : State) : (forwardReturn f s).coupling = s.coupling := rfl
@[simp] theorem forwardReturn_pool (f : Frame) (s : State) : (forwardReturn f s).pool = s.pool := rfl
@[simp] theorem forwardReturn_limit (f : Frame) (s : State) : (forwardReturn f s).limit = s.limit := rfl
@[simp] theorem forwardReturn_mgmt (f : Frame) (s : State) : (forwardReturn f s).mgmt = s.mgmt := rfl
@[simp] theorem forwardReturn_alerts (f : Frame) (s : State) : (forwardReturn f s).alerts = s.alerts := rfl
@[simp] theorem forwardReturn_counters (f : Frame) (s : State) : (forwardReturn f s).counters = s.counters := rfl
@[simp] theorem forwardReturn_capture (f : Frame) (s : State) : (forwardReturn f s).capture = s.capture := rfl
@[simp] theorem forwardReturn_profile (f : Frame) (s : State) : (forwardReturn f s).profile = s.profile := rfl
@[simp] theorem forwardReturn_startUp (f : Frame) (s : State) : (forwardReturn f s).startUp = s.startUp := rfl
@[simp] theorem forwardReturn_pending (f : Frame) (s : State) : (forwardReturn f s).pending = s.pending := rfl

@[simp] theorem searchOutbound_slots (f : Frame) (s : State) : (searchOutbound f s).slots = s.slots := by
  unfold searchOutbound; (repeat' split) <;> simp
@[simp] theorem searchOutbound_intake (f : Frame) (s : State) : (searchOutbound f s).intake = s.intake := by
  unfold searchOutbound; (repeat' split) <;> simp
@[simp] theorem searchOutbound_banks (f : Frame) (s : State) : (searchOutbound f s).banks = s.banks := by
  unfold searchOutbound; (repeat' split) <;> simp
@[simp] theorem searchOutbound_coupling (f : Frame) (s : State) : (searchOutbound f s).coupling = s.coupling := by
  unfold searchOutbound; (repeat' split) <;> simp
@[simp] theorem searchOutbound_pool (f : Frame) (s : State) : (searchOutbound f s).pool = s.pool := by
  unfold searchOutbound; (repeat' split) <;> simp
@[simp] theorem searchOutbound_limit (f : Frame) (s : State) : (searchOutbound f s).limit = s.limit := by
  unfold searchOutbound; (repeat' split) <;> simp
@[simp] theorem searchOutbound_mgmt (f : Frame) (s : State) : (searchOutbound f s).mgmt = s.mgmt := by
  unfold searchOutbound; (repeat' split) <;> simp
@[simp] theorem searchOutbound_capture (f : Frame) (s : State) : (searchOutbound f s).capture = s.capture := by
  unfold searchOutbound; (repeat' split) <;> simp
@[simp] theorem searchOutbound_profile (f : Frame) (s : State) : (searchOutbound f s).profile = s.profile := by
  unfold searchOutbound; (repeat' split) <;> simp
@[simp] theorem searchOutbound_startUp (f : Frame) (s : State) : (searchOutbound f s).startUp = s.startUp := by
  unfold searchOutbound; (repeat' split) <;> simp
@[simp] theorem searchOutbound_pending (f : Frame) (s : State) : (searchOutbound f s).pending = s.pending := by
  unfold searchOutbound; (repeat' split) <;> simp

@[simp] theorem badOutbound_slots (s : State) (h : s.ports.composing = none) : (badOutbound s).slots = s.slots := by
  unfold badOutbound; simp only []; split
  · rw [loseLock, endPassage_quiet]
    · simp
    · exact h
  · simp
@[simp] theorem badOutbound_banks (s : State) (h : s.ports.composing = none) : (badOutbound s).banks = s.banks := by
  unfold badOutbound; simp only []; split
  · rw [loseLock, endPassage_quiet]
    · simp
    · exact h
  · simp
@[simp] theorem badOutbound_limit (s : State) (h : s.ports.composing = none) : (badOutbound s).limit = s.limit := by
  unfold badOutbound; simp only []; split
  · rw [loseLock, endPassage_quiet]
    · simp
    · exact h
  · simp
@[simp] theorem badOutbound_mgmt (s : State) (h : s.ports.composing = none) : (badOutbound s).mgmt = s.mgmt := by
  unfold badOutbound; simp only []; split
  · rw [loseLock, endPassage_quiet]
    · simp
    · exact h
  · simp
@[simp] theorem badOutbound_alerts (s : State) (h : s.ports.composing = none) : (badOutbound s).alerts = s.alerts := by
  unfold badOutbound; simp only []; split
  · rw [loseLock, endPassage_quiet]
    · simp
    · exact h
  · simp
@[simp] theorem badOutbound_profile (s : State) (h : s.ports.composing = none) : (badOutbound s).profile = s.profile := by
  unfold badOutbound; simp only []; split
  · rw [loseLock, endPassage_quiet]
    · simp
    · exact h
  · simp
@[simp] theorem badOutbound_startUp (s : State) (h : s.ports.composing = none) : (badOutbound s).startUp = s.startUp := by
  unfold badOutbound; simp only []; split
  · rw [loseLock, endPassage_quiet]
    · simp
    · exact h
  · simp
@[simp] theorem badOutbound_pending (s : State) : (badOutbound s).pending = s.pending := by
  unfold badOutbound; simp only []; split <;> simp

/-- What one hole keeps, a run of holes keeps. -/
theorem giveHoles_preserves (P : State → Prop) (h : ∀ j s, P s → P (giveHole j s)) (p : Word) :
    ∀ (g : Nat) (s : State), P s → P (giveHoles p g s)
  | 0, _, hs => hs
  | g + 1, s, hs => h _ _ (giveHoles_preserves P h p g s hs)

@[simp] theorem giveHoles_ports (p : Word) (g : Nat) (s : State) : (giveHoles p g s).ports = s.ports :=
  giveHoles_preserves (fun u => u.ports = s.ports) (fun _ _ h => by simpa using h) p g s rfl

@[simp] theorem giveHoles_slots (p : Word) (g : Nat) (s : State) : (giveHoles p g s).slots = s.slots :=
  giveHoles_preserves (fun u => u.slots = s.slots) (fun _ _ h => by simpa using h) p g s rfl

@[simp] theorem giveHoles_banks (p : Word) (g : Nat) (s : State) : (giveHoles p g s).banks = s.banks :=
  giveHoles_preserves (fun u => u.banks = s.banks) (fun _ _ h => by simpa using h) p g s rfl

@[simp] theorem giveHoles_coupling (p : Word) (g : Nat) (s : State) : (giveHoles p g s).coupling = s.coupling :=
  giveHoles_preserves (fun u => u.coupling = s.coupling) (fun _ _ h => by simpa using h) p g s rfl

@[simp] theorem giveHoles_pool (p : Word) (g : Nat) (s : State) : (giveHoles p g s).pool = s.pool :=
  giveHoles_preserves (fun u => u.pool = s.pool) (fun _ _ h => by simpa using h) p g s rfl

@[simp] theorem giveHoles_limit (p : Word) (g : Nat) (s : State) : (giveHoles p g s).limit = s.limit :=
  giveHoles_preserves (fun u => u.limit = s.limit) (fun _ _ h => by simpa using h) p g s rfl

@[simp] theorem giveHoles_mgmt (p : Word) (g : Nat) (s : State) : (giveHoles p g s).mgmt = s.mgmt :=
  giveHoles_preserves (fun u => u.mgmt = s.mgmt) (fun _ _ h => by simpa using h) p g s rfl

@[simp] theorem giveHoles_alerts (p : Word) (g : Nat) (s : State) : (giveHoles p g s).alerts = s.alerts :=
  giveHoles_preserves (fun u => u.alerts = s.alerts) (fun _ _ h => by simpa using h) p g s rfl

@[simp] theorem giveHoles_capture (p : Word) (g : Nat) (s : State) : (giveHoles p g s).capture = s.capture :=
  giveHoles_preserves (fun u => u.capture = s.capture) (fun _ _ h => by simpa using h) p g s rfl

@[simp] theorem giveHoles_profile (p : Word) (g : Nat) (s : State) : (giveHoles p g s).profile = s.profile :=
  giveHoles_preserves (fun u => u.profile = s.profile) (fun _ _ h => by simpa using h) p g s rfl

@[simp] theorem giveHoles_startUp (p : Word) (g : Nat) (s : State) : (giveHoles p g s).startUp = s.startUp :=
  giveHoles_preserves (fun u => u.startUp = s.startUp) (fun _ _ h => by simpa using h) p g s rfl

@[simp] theorem giveHoles_pending (p : Word) (g : Nat) (s : State) : (giveHoles p g s).pending = s.pending :=
  giveHoles_preserves (fun u => u.pending = s.pending) (fun _ _ h => by simpa using h) p g s rfl

@[simp] theorem gapTest_slots (p m : Word) (s : State) : (gapTest p m s).slots = s.slots := by
  unfold gapTest; simp only []; (repeat' split) <;> simp
@[simp] theorem gapTest_banks (p m : Word) (s : State) : (gapTest p m s).banks = s.banks := by
  unfold gapTest; simp only []; (repeat' split) <;> simp
@[simp] theorem gapTest_coupling (p m : Word) (s : State) : (gapTest p m s).coupling = s.coupling := by
  unfold gapTest; simp only []; (repeat' split) <;> simp
@[simp] theorem gapTest_pool (p m : Word) (s : State) : (gapTest p m s).pool = s.pool := by
  unfold gapTest; simp only []; (repeat' split) <;> simp
@[simp] theorem gapTest_limit (p m : Word) (s : State) : (gapTest p m s).limit = s.limit := by
  unfold gapTest; simp only []; (repeat' split) <;> simp
@[simp] theorem gapTest_mgmt (p m : Word) (s : State) : (gapTest p m s).mgmt = s.mgmt := by
  unfold gapTest; simp only []; (repeat' split) <;> simp
@[simp] theorem gapTest_alerts (p m : Word) (s : State) : (gapTest p m s).alerts = s.alerts := by
  unfold gapTest; simp only []; (repeat' split) <;> simp
@[simp] theorem gapTest_capture (p m : Word) (s : State) : (gapTest p m s).capture = s.capture := by
  unfold gapTest; simp only []; (repeat' split) <;> simp
@[simp] theorem gapTest_profile (p m : Word) (s : State) : (gapTest p m s).profile = s.profile := by
  unfold gapTest; simp only []; (repeat' split) <;> simp
@[simp] theorem gapTest_startUp (p m : Word) (s : State) : (gapTest p m s).startUp = s.startUp := by
  unfold gapTest; simp only []; (repeat' split) <;> simp
@[simp] theorem gapTest_pending (p m : Word) (s : State) : (gapTest p m s).pending = s.pending := by
  unfold gapTest; simp only []; (repeat' split) <;> simp

/-- Composing a cell writes the frame and may record a deadline miss. -/
theorem composeCell_state (pos : Fin 64) (f : Frame) (s : State) :
    (composeCell pos f s).2 = s ∨ (composeCell pos f s).2 = recordMiss true s := by
  unfold composeCell
  split
  · split
    · exact Or.inl rfl
    · next t _ => simp only []; cases (selectOutput s f.number t).miss
                  · exact Or.inl rfl
                  · exact Or.inr rfl
  · exact Or.inl rfl

/-- What one composed cell keeps, the composition of a frame keeps. -/
theorem composeFrom_preserves (P : Frame × State → Prop) (h : ∀ pos f s, P (f, s) → P (composeCell pos f s)) (n : Nat)
    (f : Frame) (s : State) (hs : P (f, s)) : P (composeFrom n f s) := by
  unfold composeFrom
  suffices ∀ (l : List (Fin 64)) (a : Frame × State), P a →
      P (l.foldl (fun a pos => if n ≤ pos.val then composeCell pos a.1 a.2 else a) a) from this _ _ hs
  intro l
  induction l with
  | nil => exact fun _ ha => ha
  | cons x xs ih =>
    intro a ha
    simp only [List.foldl_cons]
    refine ih _ ?_
    split
    · exact h _ _ _ ha
    · exact ha

@[simp] theorem composeCell_ports (pos : Fin 64) (c : Frame) (s : State) : (composeCell pos c s).2.ports = s.ports := by
  rcases composeCell_state pos c s with h | h <;> simp [h]

@[simp] theorem composeCell_slots (pos : Fin 64) (c : Frame) (s : State) : (composeCell pos c s).2.slots = s.slots := by
  rcases composeCell_state pos c s with h | h <;> simp [h]

@[simp] theorem composeCell_intake (pos : Fin 64) (c : Frame) (s : State) : (composeCell pos c s).2.intake = s.intake := by
  rcases composeCell_state pos c s with h | h <;> simp [h]

@[simp] theorem composeCell_banks (pos : Fin 64) (c : Frame) (s : State) : (composeCell pos c s).2.banks = s.banks := by
  rcases composeCell_state pos c s with h | h <;> simp [h]

@[simp] theorem composeCell_coupling (pos : Fin 64) (c : Frame) (s : State) : (composeCell pos c s).2.coupling = s.coupling := by
  rcases composeCell_state pos c s with h | h <;> simp [h]

@[simp] theorem composeCell_pool (pos : Fin 64) (c : Frame) (s : State) : (composeCell pos c s).2.pool = s.pool := by
  rcases composeCell_state pos c s with h | h <;> simp [h]

@[simp] theorem composeCell_limit (pos : Fin 64) (c : Frame) (s : State) : (composeCell pos c s).2.limit = s.limit := by
  rcases composeCell_state pos c s with h | h <;> simp [h]

@[simp] theorem composeCell_mgmt (pos : Fin 64) (c : Frame) (s : State) : (composeCell pos c s).2.mgmt = s.mgmt := by
  rcases composeCell_state pos c s with h | h <;> simp [h]

@[simp] theorem composeCell_capture (pos : Fin 64) (c : Frame) (s : State) : (composeCell pos c s).2.capture = s.capture := by
  rcases composeCell_state pos c s with h | h <;> simp [h]

@[simp] theorem composeCell_profile (pos : Fin 64) (c : Frame) (s : State) : (composeCell pos c s).2.profile = s.profile := by
  rcases composeCell_state pos c s with h | h <;> simp [h]

@[simp] theorem composeCell_startUp (pos : Fin 64) (c : Frame) (s : State) : (composeCell pos c s).2.startUp = s.startUp := by
  rcases composeCell_state pos c s with h | h <;> simp [h]

@[simp] theorem composeCell_pending (pos : Fin 64) (c : Frame) (s : State) : (composeCell pos c s).2.pending = s.pending := by
  rcases composeCell_state pos c s with h | h <;> simp [h]

@[simp] theorem composeFrom_ports (n : Nat) (c : Frame) (s : State) : (composeFrom n c s).2.ports = s.ports :=
  composeFrom_preserves (fun a => a.2.ports = s.ports) (fun _ _ _ h => by simpa using h) n c s rfl

@[simp] theorem composeFrom_slots (n : Nat) (c : Frame) (s : State) : (composeFrom n c s).2.slots = s.slots :=
  composeFrom_preserves (fun a => a.2.slots = s.slots) (fun _ _ _ h => by simpa using h) n c s rfl

@[simp] theorem composeFrom_intake (n : Nat) (c : Frame) (s : State) : (composeFrom n c s).2.intake = s.intake :=
  composeFrom_preserves (fun a => a.2.intake = s.intake) (fun _ _ _ h => by simpa using h) n c s rfl

@[simp] theorem composeFrom_banks (n : Nat) (c : Frame) (s : State) : (composeFrom n c s).2.banks = s.banks :=
  composeFrom_preserves (fun a => a.2.banks = s.banks) (fun _ _ _ h => by simpa using h) n c s rfl

@[simp] theorem composeFrom_coupling (n : Nat) (c : Frame) (s : State) : (composeFrom n c s).2.coupling = s.coupling :=
  composeFrom_preserves (fun a => a.2.coupling = s.coupling) (fun _ _ _ h => by simpa using h) n c s rfl

@[simp] theorem composeFrom_pool (n : Nat) (c : Frame) (s : State) : (composeFrom n c s).2.pool = s.pool :=
  composeFrom_preserves (fun a => a.2.pool = s.pool) (fun _ _ _ h => by simpa using h) n c s rfl

@[simp] theorem composeFrom_limit (n : Nat) (c : Frame) (s : State) : (composeFrom n c s).2.limit = s.limit :=
  composeFrom_preserves (fun a => a.2.limit = s.limit) (fun _ _ _ h => by simpa using h) n c s rfl

@[simp] theorem composeFrom_mgmt (n : Nat) (c : Frame) (s : State) : (composeFrom n c s).2.mgmt = s.mgmt :=
  composeFrom_preserves (fun a => a.2.mgmt = s.mgmt) (fun _ _ _ h => by simpa using h) n c s rfl

@[simp] theorem composeFrom_capture (n : Nat) (c : Frame) (s : State) : (composeFrom n c s).2.capture = s.capture :=
  composeFrom_preserves (fun a => a.2.capture = s.capture) (fun _ _ _ h => by simpa using h) n c s rfl

@[simp] theorem composeFrom_profile (n : Nat) (c : Frame) (s : State) : (composeFrom n c s).2.profile = s.profile :=
  composeFrom_preserves (fun a => a.2.profile = s.profile) (fun _ _ _ h => by simpa using h) n c s rfl

@[simp] theorem composeFrom_startUp (n : Nat) (c : Frame) (s : State) : (composeFrom n c s).2.startUp = s.startUp :=
  composeFrom_preserves (fun a => a.2.startUp = s.startUp) (fun _ _ _ h => by simpa using h) n c s rfl

@[simp] theorem composeFrom_pending (n : Nat) (c : Frame) (s : State) : (composeFrom n c s).2.pending = s.pending :=
  composeFrom_preserves (fun a => a.2.pending = s.pending) (fun _ _ _ h => by simpa using h) n c s rfl

@[simp] theorem reserveEntry_ports (s : State) : (reserveEntry s).ports = s.ports := rfl
@[simp] theorem reserveEntry_slots (s : State) : (reserveEntry s).slots = s.slots := rfl
@[simp] theorem reserveEntry_intake (s : State) : (reserveEntry s).intake = s.intake := rfl
@[simp] theorem reserveEntry_banks (s : State) : (reserveEntry s).banks = s.banks := rfl
@[simp] theorem reserveEntry_coupling (s : State) : (reserveEntry s).coupling = s.coupling := rfl
@[simp] theorem reserveEntry_pool (s : State) : (reserveEntry s).pool = s.pool := rfl
@[simp] theorem reserveEntry_limit (s : State) : (reserveEntry s).limit = s.limit := rfl
@[simp] theorem reserveEntry_alerts (s : State) : (reserveEntry s).alerts = s.alerts := rfl
@[simp] theorem reserveEntry_counters (s : State) : (reserveEntry s).counters = s.counters := rfl
@[simp] theorem reserveEntry_capture (s : State) : (reserveEntry s).capture = s.capture := rfl
@[simp] theorem reserveEntry_profile (s : State) : (reserveEntry s).profile = s.profile := rfl
@[simp] theorem reserveEntry_startUp (s : State) : (reserveEntry s).startUp = s.startUp := rfl
@[simp] theorem reserveEntry_pending (s : State) : (reserveEntry s).pending = s.pending := rfl

/-- A property that every decision keeps holds after any decided command. -/
theorem decideCommand_preserves (P : State → Prop) (code : Byte) (r : Request) (s : State)
    (hStatus : P (decideStatus s).1) (hClaim : P (decideClaim r s).1) (hRelease : P (decideRelease r s).1)
    (hSelect : P (decideSelect r s).1) (hData : P (decideData r s).1) (hRead : P (decideRead r s).1)
    (hCommit : P (decideCommit r s).1) (hResync : P (decideResync r s).1) (hClear : P (decideClearStandby r s).1)
    (hMode : P (decideMode r s).1) (hArm : P (decideArmCapture r s).1) (hPersist : P (decidePersist r s).1)
    (hAck : P (decideAckAlert r s).1) (hUnknown : P s) : P (decideCommand code r s).1 := by
  unfold decideCommand
  split <;> assumption

@[simp] theorem decideCommand_ports (code : Byte) (r : Request) (s : State) : (decideCommand code r s).1.ports = s.ports := by
  refine decideCommand_preserves (fun u => u.ports = s.ports) code r s ?_ ?_ ?_ ?_ ?_ ?_ ?_ ?_ ?_ ?_ ?_ ?_ ?_ rfl <;> simp

@[simp] theorem decideCommand_coupling (code : Byte) (r : Request) (s : State) : (decideCommand code r s).1.coupling = s.coupling := by
  refine decideCommand_preserves (fun u => u.coupling = s.coupling) code r s ?_ ?_ ?_ ?_ ?_ ?_ ?_ ?_ ?_ ?_ ?_ ?_ ?_ rfl <;> simp

@[simp] theorem decideCommand_startUp (code : Byte) (r : Request) (s : State) : (decideCommand code r s).1.startUp = s.startUp := by
  refine decideCommand_preserves (fun u => u.startUp = s.startUp) code r s ?_ ?_ ?_ ?_ ?_ ?_ ?_ ?_ ?_ ?_ ?_ ?_ ?_ rfl <;> simp

@[simp] theorem decideCommand_pending (code : Byte) (r : Request) (s : State) : (decideCommand code r s).1.pending = s.pending := by
  refine decideCommand_preserves (fun u => u.pending = s.pending) code r s ?_ ?_ ?_ ?_ ?_ ?_ ?_ ?_ ?_ ?_ ?_ ?_ ?_ rfl <;> simp

@[simp] theorem decideCommand_queue (code : Byte) (r : Request) (s : State) :
    (decideCommand code r s).1.mgmt.queue = s.mgmt.queue := by
  refine decideCommand_preserves (fun u => u.mgmt.queue = s.mgmt.queue) code r s ?_ ?_ ?_ ?_ ?_ ?_ ?_ ?_ ?_ ?_ ?_ ?_ ?_ rfl <;>
    simp

/-- What can become of the state at one cell of the command area (R12). -/
theorem areaCell_cases (a : AreaStep) (c : MgmtCell) :
    (areaCell a c).1 = a ∨
    (entryFree a.state = false ∧ (areaCell a c).1 = { a with state := bump .cmdDeclined 1 a.state }) ∨
    (entryFree a.state = true ∧ ∃ k, (areaCell a c).1 =
      { state := reserveEntry (renewLeases (cellRequest c) a.state), reset := some k }) ∨
    (entryFree a.state = true ∧ a.reset = none ∧ (areaCell a c).1 =
      { a with state := answerCommand c.code (cellRequest c) (decideCommand c.code (cellRequest c)) a.state }) := by
  unfold areaCell
  split
  · exact Or.inl rfl
  · next h =>
    split
    · next hf => exact Or.inr (Or.inl ⟨by simpa using hf, rfl⟩)
    · next hf =>
      have hf' : entryFree a.state = true := by simpa using hf
      split
      · exact Or.inr (Or.inr (Or.inl ⟨hf', _, rfl⟩))
      · refine Or.inr (Or.inr (Or.inr ⟨hf', ?_, rfl⟩))
        simp only [Bool.or_eq_true, Option.isSome_iff_ne_none, not_or, ne_eq, Decidable.not_not] at h
        exact h.1

@[simp] theorem areaCell_ports (a : AreaStep) (c : MgmtCell) : (areaCell a c).1.state.ports = a.state.ports := by
  rcases areaCell_cases a c with h | ⟨_, h⟩ | ⟨_, _, h⟩ | ⟨_, _, h⟩ <;> rw [h] <;> simp [answerCommand]

@[simp] theorem areaCell_coupling (a : AreaStep) (c : MgmtCell) : (areaCell a c).1.state.coupling = a.state.coupling := by
  rcases areaCell_cases a c with h | ⟨_, h⟩ | ⟨_, _, h⟩ | ⟨_, _, h⟩ <;> rw [h] <;> simp [answerCommand]

@[simp] theorem areaCell_startUp (a : AreaStep) (c : MgmtCell) : (areaCell a c).1.state.startUp = a.state.startUp := by
  rcases areaCell_cases a c with h | ⟨_, h⟩ | ⟨_, _, h⟩ | ⟨_, _, h⟩ <;> rw [h] <;> simp [answerCommand]

@[simp] theorem areaCell_pending (a : AreaStep) (c : MgmtCell) : (areaCell a c).1.state.pending = a.state.pending := by
  rcases areaCell_cases a c with h | ⟨_, h⟩ | ⟨_, _, h⟩ | ⟨_, _, h⟩ <;> rw [h] <;> simp [answerCommand]

/-- What every cell keeps, a walk over command cells keeps. -/
theorem takeCells_preserves (P : AreaStep → Prop) (h : ∀ a c, P a → P (areaCell a c).1) (lo hi : Nat) (cells : Vector MgmtCell 4)
    (a : AreaStep) (ha : P a) : P (takeCells lo hi cells a).1 := by
  have one : ∀ (a : AreaStep) (i : Fin 4), P a → P (areaCellWithin lo hi cells a i).1 := by
    intro a i ha; unfold areaCellWithin; split
    · exact h _ _ ha
    · exact ha
  exact one _ 3 (one _ 2 (one _ 1 (one _ 0 ha)))

@[simp] theorem takeCells_ports (lo hi : Nat) (cells : Vector MgmtCell 4) (a : AreaStep) :
    (takeCells lo hi cells a).1.state.ports = a.state.ports :=
  takeCells_preserves (fun x => x.state.ports = a.state.ports) (fun _ _ h => by simpa using h) lo hi cells a rfl

@[simp] theorem takeFirst_ports (k : Nat) (cells : Vector MgmtCell 4) (s : State) :
    (takeFirst k cells s).1.state.ports = s.ports := takeCells_ports 0 k cells _

@[simp] theorem takeCells_coupling (lo hi : Nat) (cells : Vector MgmtCell 4) (a : AreaStep) :
    (takeCells lo hi cells a).1.state.coupling = a.state.coupling :=
  takeCells_preserves (fun x => x.state.coupling = a.state.coupling) (fun _ _ h => by simpa using h) lo hi cells a rfl

@[simp] theorem takeFirst_coupling (k : Nat) (cells : Vector MgmtCell 4) (s : State) :
    (takeFirst k cells s).1.state.coupling = s.coupling := takeCells_coupling 0 k cells _

@[simp] theorem takeCells_startUp (lo hi : Nat) (cells : Vector MgmtCell 4) (a : AreaStep) :
    (takeCells lo hi cells a).1.state.startUp = a.state.startUp :=
  takeCells_preserves (fun x => x.state.startUp = a.state.startUp) (fun _ _ h => by simpa using h) lo hi cells a rfl

@[simp] theorem takeFirst_startUp (k : Nat) (cells : Vector MgmtCell 4) (s : State) :
    (takeFirst k cells s).1.state.startUp = s.startUp := takeCells_startUp 0 k cells _

@[simp] theorem takeCells_pending (lo hi : Nat) (cells : Vector MgmtCell 4) (a : AreaStep) :
    (takeCells lo hi cells a).1.state.pending = a.state.pending :=
  takeCells_preserves (fun x => x.state.pending = a.state.pending) (fun _ _ h => by simpa using h) lo hi cells a rfl

@[simp] theorem takeFirst_pending (k : Nat) (cells : Vector MgmtCell 4) (s : State) :
    (takeFirst k cells s).1.state.pending = s.pending := takeCells_pending 0 k cells _

@[simp] theorem finishPersist_ports (p : PersistRun) (o : ReadBack) (s : State) : (finishPersist p o s).ports = s.ports := by
  unfold finishPersist; split <;> rfl
@[simp] theorem finishPersist_slots (p : PersistRun) (o : ReadBack) (s : State) : (finishPersist p o s).slots = s.slots := by
  unfold finishPersist; split <;> rfl
@[simp] theorem finishPersist_intake (p : PersistRun) (o : ReadBack) (s : State) : (finishPersist p o s).intake = s.intake := by
  unfold finishPersist; split <;> rfl
@[simp] theorem finishPersist_banks (p : PersistRun) (o : ReadBack) (s : State) : (finishPersist p o s).banks = s.banks := by
  unfold finishPersist; split <;> rfl
@[simp] theorem finishPersist_coupling (p : PersistRun) (o : ReadBack) (s : State) : (finishPersist p o s).coupling = s.coupling := by
  unfold finishPersist; split <;> rfl
@[simp] theorem finishPersist_pool (p : PersistRun) (o : ReadBack) (s : State) : (finishPersist p o s).pool = s.pool := by
  unfold finishPersist; split <;> rfl
@[simp] theorem finishPersist_limit (p : PersistRun) (o : ReadBack) (s : State) : (finishPersist p o s).limit = s.limit := by
  unfold finishPersist; split <;> rfl
@[simp] theorem finishPersist_mgmt (p : PersistRun) (o : ReadBack) (s : State) : (finishPersist p o s).mgmt = s.mgmt := by
  unfold finishPersist; split <;> rfl
@[simp] theorem finishPersist_counters (p : PersistRun) (o : ReadBack) (s : State) : (finishPersist p o s).counters = s.counters := by
  unfold finishPersist; split <;> rfl
@[simp] theorem finishPersist_capture (p : PersistRun) (o : ReadBack) (s : State) : (finishPersist p o s).capture = s.capture := by
  unfold finishPersist; split <;> rfl
@[simp] theorem finishPersist_startUp (p : PersistRun) (o : ReadBack) (s : State) : (finishPersist p o s).startUp = s.startUp := by
  unfold finishPersist; split <;> rfl
@[simp] theorem finishPersist_pending (p : PersistRun) (o : ReadBack) (s : State) : (finishPersist p o s).pending = s.pending := by
  unfold finishPersist; split <;> rfl

@[simp] theorem unpower_pending (s : State) : (unpower s).pending = s.pending := rfl

@[simp] theorem endOutbound_pending (f : Frame) (a : AreaStep × Vector MgmtCell 4) :
    (endOutbound f a).pending = a.1.state.pending := by simp [endOutbound]

@[simp] theorem finishOutbound_pending (f : Frame) (s : State) : (finishOutbound f s).pending = s.pending := by simp [finishOutbound]

/-- A reset, or none, leaves no passage in composition when there was none. -/
theorem beginReset_composing (k : Option ResetKind) (s : State) (h : s.ports.composing = none) :
    (beginReset k s).ports.composing = none := by
  unfold beginReset; split
  · exact h
  · simp [fullReset, coldStart, blankPart, freshPorts, LoopPorts.initial]
  · rfl

@[simp] theorem endOutbound_composing (f : Frame) (a : AreaStep × Vector MgmtCell 4) :
    (endOutbound f a).ports.composing = none := beginReset_composing _ _ (by simp)

@[simp] theorem finishPassage_composing (s : State) : (finishPassage s).ports.composing = none := by
  unfold finishPassage; split
  · assumption
  · simp

/-- What the arrival of command cell j does, by what the cell comes to (R12, log 2). -/
theorem arriveCommand_eq (f : Frame) (j : Fin 4) (k : Option ResetKind) (s : State) :
    arriveCommand { frame := f, next := f.used.toNat + j.val, reset := k } s =
      let a := areaCell { state := s, reset := k } f.commands[j]
      let g := { f with commands := f.commands.set j a.2 }
      if j.val < 3 then
        a.1.state.setPorts { a.1.state.ports with
          composing := some { frame := g, next := f.used.toNat + j.val + 1, reset := a.1.reset } }
      else endOutbound g (a.1, g.commands) := by
  have hj : Fin.ofNat 4 (f.used.toNat + j.val - f.used.toNat) = j := by ext; simp
  simp only [arriveCommand, hj]
  by_cases h : j.val < 3 <;> simp [h]

@[simp] theorem endPassage_composing (s : State) : (endPassage s).ports.composing = none := by
  refine beginReset_composing _ _ ?_
  unfold cutPassage; split
  · assumption
  · simp

@[simp] theorem finishPassage_pending (s : State) : (finishPassage s).pending = s.pending := by
  unfold finishPassage; split <;> simp

@[simp] theorem lockedOutbound_pending (f : Frame) (m : Composition) (s : State) : (lockedOutbound f m s).pending = s.pending := by
  unfold lockedOutbound; (repeat' split) <;> simp

@[simp] theorem matchedReturn_startUp (f : Frame) (s : State) : (matchedReturn f s).startUp = s.startUp := by simp [matchedReturn]
@[simp] theorem matchedReturn_pending (f : Frame) (s : State) : (matchedReturn f s).pending = s.pending := by simp [matchedReturn]

@[simp] theorem failedReturn_slots (c : CounterId) (f : Frame) (s : State) : (failedReturn c f s).slots = s.slots := by
  unfold failedReturn; simp only []; split <;> simp
@[simp] theorem failedReturn_banks (c : CounterId) (f : Frame) (s : State) : (failedReturn c f s).banks = s.banks := by
  unfold failedReturn; simp only []; split <;> simp
@[simp] theorem failedReturn_coupling (c : CounterId) (f : Frame) (s : State) : (failedReturn c f s).coupling = s.coupling := by
  unfold failedReturn; simp only []; split <;> simp
@[simp] theorem failedReturn_pool (c : CounterId) (f : Frame) (s : State) : (failedReturn c f s).pool = s.pool := by
  unfold failedReturn; simp only []; split <;> simp
@[simp] theorem failedReturn_limit (c : CounterId) (f : Frame) (s : State) : (failedReturn c f s).limit = s.limit := by
  unfold failedReturn; simp only []; split <;> simp
@[simp] theorem failedReturn_mgmt (c : CounterId) (f : Frame) (s : State) : (failedReturn c f s).mgmt = s.mgmt := by
  unfold failedReturn; simp only []; split <;> simp
@[simp] theorem failedReturn_alerts (c : CounterId) (f : Frame) (s : State) : (failedReturn c f s).alerts = s.alerts := by
  unfold failedReturn; simp only []; split <;> simp
@[simp] theorem failedReturn_capture (c : CounterId) (f : Frame) (s : State) : (failedReturn c f s).capture = s.capture := by
  unfold failedReturn; simp only []; split <;> simp
@[simp] theorem failedReturn_profile (c : CounterId) (f : Frame) (s : State) : (failedReturn c f s).profile = s.profile := by
  unfold failedReturn; simp only []; split <;> simp
@[simp] theorem failedReturn_startUp (c : CounterId) (f : Frame) (s : State) : (failedReturn c f s).startUp = s.startUp := by
  unfold failedReturn; simp only []; split <;> simp
@[simp] theorem failedReturn_pending (c : CounterId) (f : Frame) (s : State) : (failedReturn c f s).pending = s.pending := by
  unfold failedReturn; simp only []; split <;> simp

@[simp] theorem closePassage_slots (s : State) : (closePassage s).slots = s.slots := by
  unfold closePassage; split <;> simp
@[simp] theorem closePassage_intake (s : State) : (closePassage s).intake = s.intake := by
  unfold closePassage; split <;> simp
@[simp] theorem closePassage_banks (s : State) : (closePassage s).banks = s.banks := by
  unfold closePassage; split <;> simp
@[simp] theorem closePassage_coupling (s : State) : (closePassage s).coupling = s.coupling := by
  unfold closePassage; split <;> simp
@[simp] theorem closePassage_pool (s : State) : (closePassage s).pool = s.pool := by
  unfold closePassage; split <;> simp
@[simp] theorem closePassage_limit (s : State) : (closePassage s).limit = s.limit := by
  unfold closePassage; split <;> simp
@[simp] theorem closePassage_mgmt (s : State) : (closePassage s).mgmt = s.mgmt := by
  unfold closePassage; split <;> simp
@[simp] theorem closePassage_capture (s : State) : (closePassage s).capture = s.capture := by
  unfold closePassage; split <;> simp
@[simp] theorem closePassage_profile (s : State) : (closePassage s).profile = s.profile := by
  unfold closePassage; split <;> simp
@[simp] theorem closePassage_startUp (s : State) : (closePassage s).startUp = s.startUp := by
  unfold closePassage; split <;> simp
@[simp] theorem closePassage_pending (s : State) : (closePassage s).pending = s.pending := by
  unfold closePassage; split <;> simp

@[simp] theorem takeReset_pending (k : ResetKind) (r : Request) (s : State) : (takeReset k r s).pending = s.pending := by
  unfold takeReset; (repeat' split) <;> simp

end Sys2Proof.Machine
end

