-- ==== Sys2Proof/Laws/Words.lean ====
section
/-! SUPPORT. Lemmas about the words the statements are made of (Safety.lean): good checks, Matching, Holds, Taken, counted,
withHoles. -/

namespace Sys2Proof.Machine

/-! Frames -/

/-- A frame with its check computed anew is good exactly when its used-cell count is valid. -/
theorem goodCheck_regenerate (f : Frame) : goodCheck (regenerate f) = validUsed f := by
  simp [goodCheck, regenerate, validUsed, checkedBytes]

theorem onLoop_iff (s : State) : onLoop s = true ↔ OnLoop s := by simp [onLoop, OnLoop]

/-- With nothing in composition there is no passage to finish. -/
theorem finishPassage_quiet (s : State) (h : Quiet s) : finishPassage s = s := by simp [finishPassage, h.2]

/-- A good, matching return is a frame boundary. -/
theorem exec_returnFrame_matching (f : Frame) (s : State) (h : Matching f s) :
    exec (.returnFrame f .current) s = .next (matchedReturn f s) := by
  obtain ⟨hp, ⟨hc, hl⟩, hg, ha, hm⟩ := h
  simp [exec, execReturnFrame, receivedReturn, hp, onLoop, hc, hl, hg, matchesReturn, ha, hm]

/-- A good, matching return that is cut keeps what was written until then. -/
theorem exec_returnFrame_cut (k : Fin 5) (report : Bool) (f : Frame) (s : State) (h : Matching f s) :
    exec (.returnFrame f (.cut k report)) s = .next (cutReturn k report f s) := by
  obtain ⟨hp, ⟨hc, hl⟩, hg, ha, hm⟩ := h
  simp [exec, execReturnFrame, hp, onLoop, hc, hl, hg, matchesReturn, ha, hm]

theorem present_iff (f : Frame) (map : Vector (Option (Fin 64)) 64) (t : Slot) :
    Present f map t ↔ sledPresent f map t = true := by
  unfold Present sledPresent returnHalf
  cases h : map[t] with
  | none => simp
  | some c =>
    by_cases hc : c.val < f.used.toNat
    · simp [hc]
    · simp [hc]

/-- The table of R82 is the output selection. -/
theorem selects_iff (s : State) (n : Word) (t : Slot) (c : Word) (k : CellStatus) (miss : Bool) :
    Selects s n t c k miss ↔ selectOutput s n t = { correction := c, status := k, miss := miss } := by
  have flip : ∀ (a : Word) (b : CellStatus) (m : Bool),
      ({ correction := a, status := b, miss := m } : Selection) = ⟨c, k, miss⟩ ↔ c = a ∧ k = b ∧ miss = m := by
    intro a b m
    rw [Selection.mk.injEq]
    constructor <;> (rintro ⟨rfl, rfl, rfl⟩; exact ⟨rfl, rfl, rfl⟩)
  unfold Selects selectOutput isFresh
  simp only []
  generalize n - 1 = before
  generalize s.slots.records[t].state = st
  generalize s.slots.targets.getLsbD t = member
  generalize s.limit.muteSet.getLsbD t = muted
  generalize s.limit.mode = mode
  generalize s.coupling.targets[t] = r
  obtain ⟨last, stamp, fresh⟩ := r
  by_cases h : stamp = some before <;> cases st <;> cases member <;> cases muted <;> cases mode <;> cases fresh <;>
    simp [h, flip]

/-! Commands -/

theorem holds_iff (r : Request) (d : Domain) (s : State) : holds r d s = true ↔ Holds r d s := by
  unfold holds isHolder Holds
  cases lockOf s.mgmt.locks d with
  | none => simp
  | some h => simp [and_assoc]

theorem holds_false {r : Request} {d : Domain} {s : State} (h : ¬ Holds r d s) : holds r d s = false := by
  rw [← holds_iff] at h; simpa using h

/-- A taken command is its decision in the state with the leases renewed, and its answer at the tail of the queue. -/
theorem takeCommand_of_taken {r : Request} {s u : State} (h : Taken r s u) (code : Byte) (d : State → State × Reply) :
    takeCommand code r d s = enqueue code r (d u).2 (d u).1 := by
  obtain ⟨hl, hq, rfl⟩ := h
  have : onLoop s = true := (onLoop_iff s).2 hl
  simp [takeCommand, this, entryFree, hq, answerCommand]

/-! Counters -/

theorem countUp_zero (c : Word) : countUp c 0 = c := by
  unfold countUp; have := c.isLt; rw [if_pos (by omega)]; simp

theorem countUp_countUp (c : Word) (a b : Nat) : countUp (countUp c a) b = countUp c (a + b) := by
  unfold countUp
  apply BitVec.eq_of_toNat_eq
  have := c.isLt
  split <;> split <;> (try split) <;> simp [BitVec.toNat_add, BitVec.toNat_ofNat] at * <;> omega

theorem counted_zero (i : Fin 10) (v : Vector Word 10) : counted i 0 v = v := by
  unfold counted; rw [countUp_zero]; simp

theorem counted_counted (i : Fin 10) (a b : Nat) (v : Vector Word 10) : counted i b (counted i a v) = counted i (a + b) v := by
  unfold counted; simp [countUp_countUp]

theorem counted_comm (i j : Fin 10) (h : i ≠ j) (a b : Nat) (v : Vector Word 10) :
    counted i a (counted j b v) = counted j b (counted i a v) := by
  unfold counted
  apply Vector.ext
  intro k hk
  have h1 : i.val ≠ j.val := fun e => h (Fin.ext e)
  have h2 : j.val ≠ i.val := fun e => h1 e.symm
  simp [Vector.getElem_set, h1, h2]
  split <;> split <;> simp_all

/-- A counter that is incremented is counted. -/
theorem bump_eq (c : CounterId) (n : Nat) (s : State) : bump c n s = { s with counters := counted (counterItem c) n s.counters } :=
  rfl

/-- A source that is raised is pending. -/
theorem raiseAlert_eq (a : AlertSource) (s : State) : raiseAlert a s = { s with alerts := withPending (sourceNumber a) s.alerts } :=
  rfl

/-! Holes -/

theorem withHoles_get (n : Nat) (j : Word) (h : Intake) (i : Nat) (hi : i < 64) (a : Nat) (ha : a < 32) :
    ((withHoles n j h).history[i])[a] = if a < n then none else (h.history[i])[a - n]'(by omega) := by
  simp only [withHoles, Vector.getElem_ofFn, Fin.getElem_fin]

theorem withHoles_succ (n : Nat) (j k : Word) (h : Intake) : withHoles 1 k (withHoles n j h) = withHoles (n + 1) k h := by
  have hist : (withHoles 1 k (withHoles n j h)).history = (withHoles (n + 1) k h).history := by
    apply Vector.ext; intro i hi
    apply Vector.ext; intro a ha
    rw [withHoles_get, withHoles_get, withHoles_get]
    split
    · rw [if_pos (by omega)]
    · split
      · rw [if_pos (by omega)]
      · rw [if_neg (by omega)]
        congr 1; omega
  have head : (withHoles 1 k (withHoles n j h)).head = (withHoles (n + 1) k h).head := rfl
  generalize withHoles 1 k (withHoles n j h) = A at *
  generalize withHoles (n + 1) k h = B at *
  cases A; cases B; simp_all

/-- One hole for every slot, in the words of the statements. -/
theorem giveHole_eq (s : State) (j : Word) :
    giveHole j s = { s with intake := withHoles 1 j s.intake, counters := counted 7 (attachedSlots s) s.counters } := by
  have hist : (Vector.ofFn fun t : Fin 64 => pushEntry s.intake.history[t] none) = (withHoles 1 j s.intake).history := by
    apply Vector.ext; intro i hi
    apply Vector.ext; intro a ha
    rw [withHoles_get]
    simp only [pushEntry, Vector.getElem_ofFn, Nat.lt_one_iff]; rfl
  have head : (withHoles 1 j s.intake).head = some j := rfl
  unfold giveHole State.setIntake bump State.setCounters
  rw [hist, ← head]
  simp only [counterItem]
  simp only [counted, attachedSlots]

/-- Holes for several numbers, in the words of the statements. -/
theorem giveHoles_eq (p : Word) : ∀ (g : Nat) (s : State),
    giveHoles p (g + 1) s =
      { s with
        intake := withHoles (g + 1) (p + BitVec.ofNat 16 (g + 1)) s.intake
        counters := counted 7 (attachedSlots s * (g + 1)) s.counters } := by
  intro g
  induction g with
  | zero => intro s; simp only [giveHoles, giveHole_eq]; simp
  | succ g ih =>
    intro s
    rw [giveHoles, ih, giveHole_eq]
    simp only [withHoles_succ, counted_counted]
    have : attachedSlots s * (g + 1) + attachedSlots s = attachedSlots s * (g + 1 + 1) := by ring
    rw [← this]
    simp only [attachedSlots]

end Sys2Proof.Machine
end

