-- ==== Sys2Proof/Tests/Slice0.lean ====
section
/-! SUPPORT. Tests: ill-formed terms, numbers worked in the spec, one step of each command, and for every statement with
hypotheses a state and operands that meet them. -/

open Sys2Proof Sys2Proof.Machine

namespace Sys2Proof.Tests

-- One theorem after the other: many kernel evaluations at once take more memory than the check allows.
set_option Elab.async false

/-! Helpers -/

/-- A slot cell of zeros. -/
def cell0 : SlotCell := { correction := 0, status := 0, flags := 0, sample := 0, notice := 0 }

/-- A frame of zeros with a number and a used-cell count. -/
def blank (n : Word) (used : Byte) : Frame :=
  { number := n, used := used, alert := 0, cells := Vector.replicate 64 cell0, commands := Vector.replicate 4 emptyCell,
    responses := Vector.replicate 4 emptyCell, check := 0 }

/-- A frame with a slot cell replaced and a good check. -/
def withCell (f : Frame) (c : Fin 64) (x : SlotCell) : Frame := { f with cells := f.cells.set c x }

/-- The return half of a present sled with a valid sample. -/
def sample (v : Word) : SlotCell := { cell0 with flags := 3, sample := v }

/-- The frame of number 7 with every cell used. -/
def frame7 : Frame := blank 7 64

/-- Lock held, frame 7 awaited. -/
def locked : State :=
  { State.reset with ports := { State.reset.ports with
      lock := .locked, lastGood := some { number := 7, used := 64 }, frameMatch := .awaiting } }

/-- The state a command answers, and State.reset where it answers none. -/
def after (o : Host.Outcome State Fault Refusal) : State :=
  match o with
  | .next t => t
  | _ => State.reset

/-- What frame f with a good check leaves as the return of frame 7. -/
def returned (f : Frame) (s : State) : State := after (exec (.returnFrame (regenerate f) .current) s)

theorem matching (f : Frame) (s : State) (hn : f.number = 7) (hu : f.used = 64) (hp : s.ports = locked.ports)
    (hs : s.startUp.phase = .running) : Matching (regenerate f) s := by
  refine ⟨by simp [hs], ⟨by rw [hp]; rfl, by rw [hp]; rfl⟩, ?_, by rw [hp]; rfl, by rw [hp]; simp [regenerate, hn, hu, locked]⟩
  rw [goodCheck_regenerate, validUsed, hu]; rfl

theorem returned_eq (f : Frame) (s : State) (hn : f.number = 7) (hu : f.used = 64) (hp : s.ports = locked.ports)
    (hs : s.startUp.phase = .running) : returned f s = matchedReturn (regenerate f) s := by
  rw [returned, exec_returnFrame_matching _ _ (matching f s hn hu hp hs)]; rfl

/-- A request of manager 1. -/
def req (tag : Tag) (p : Vector Byte 8) : Request := { manager := 1, tag := tag, seq := 9, payload := p }

/-- Lock held by manager 1 with tag 21 in every domain. -/
def holder : Holder := { manager := 1, tag := 21, lease := 5 }

def owner : State :=
  { locked with mgmt := { locked.mgmt with
      locks := { standby := some holder, config := some holder, capture := some holder, profile := some holder } } }

/-- The owner's state with every Load Context OPEN on an item. -/
def opened (t : Table) (n : Nat) (m : ContextMode) : State :=
  { owner with mgmt := { owner.mgmt with
      contexts := Vector.replicate 4 { table := some t, index := n, mode := m, state := .opened } } }

theorem taken (r : Request) (s : State) (hp : s.ports = locked.ports) (hq : s.mgmt.queue = []) : Taken r s (renewLeases r s) :=
  ⟨⟨by rw [hp]; rfl, by rw [hp]; rfl⟩, by rw [hq]; decide, rfl⟩

theorem holds21 (s : State) (p : Vector Byte 8) (d : Domain) (h : s.mgmt.locks = owner.mgmt.locks) : Holds (req 21 p) d s := by
  refine ⟨show (21 : Tag) ≠ 0 by decide, holder, ?_, rfl, rfl⟩
  rw [h]; cases d <;> rfl

theorem holds22 (s : State) (p : Vector Byte 8) (d : Domain) (h : s.mgmt.locks = owner.mgmt.locks) : ¬ Holds (req 22 p) d s := by
  rintro ⟨_, x, hx, _, ht⟩
  rw [h] at hx
  have : x = holder := by cases d <;> exact (Option.some.inj hx).symm
  subst this
  exact absurd ht (show ¬ (21 : Tag) = 22 by decide)

/-- The status of the response at the tail of the queue, and 255 without one. -/
def answerOf (s : State) : Byte :=
  match s.mgmt.queue.getLast? with
  | some (.ready c) => c.status
  | _ => 255

/-- The payload of the response at the tail of the queue. -/
def payloadAnswered (s : State) : Vector Byte 8 :=
  match s.mgmt.queue.getLast? with
  | some (.ready c) => c.payload
  | _ => #v[255, 0, 0, 0, 0, 0, 0, 0]

/-! Ill-formed terms -/

theorem test_illFormed_resetFull : (Instr.resetFull (req 0 #v[0, 0, 0, 0, 0, 0, 0, 0])).wellFormed = false := by decide
theorem test_illFormed_resetWarm : (Instr.resetWarm (req 0 #v[1, 0, 0, 0, 0, 0, 0, 0])).wellFormed = false := by decide
theorem test_illFormed_unknownCommand_low : (Instr.unknownCommand 1 (req 0 zeroPayload)).wellFormed = false := by decide
theorem test_illFormed_unknownCommand_high : (Instr.unknownCommand 14 (req 0 zeroPayload)).wellFormed = false := by decide
theorem test_wellFormed_unknownCommand : (Instr.unknownCommand 0 (req 0 zeroPayload)).wellFormed = true ∧
    (Instr.unknownCommand 15 (req 0 zeroPayload)).wellFormed = true := by decide

/-! Numbers worked in the spec -/

/-- R161: the check value of CRC-32 over the digits 1 to 9. -/
theorem test_crc32 : crc32 [0x31, 0x32, 0x33, 0x34, 0x35, 0x36, 0x37, 0x38, 0x39] = 0x649C2FD3 := by decide +kernel

/-- 05 section 5.10: the roundings of pass 3000 and of pass 3001. -/
theorem test_round14 : round14 6553600 = 400 ∧ round14 983040 = 60 ∧ round14 (-4259840) = -260 ∧ round14 (-14172160) = -865 := by
  decide

/-- 05 section 5.10: -865 at LEVEL1 and at LEVEL2. -/
theorem test_derate : derate .level1 (-865) = -432 ∧ derate .level2 (-865) = -216 := by decide

/-- R80: a value of -32,768 is clamped and saturated. -/
theorem test_clamp : clampCorrection (-32768) = -32767 ∧ isSaturated (-32768) = true ∧ isSaturated (-32767) = false := by decide

/-- 04 section 4.12, step 6. -/
theorem test_addSaturated : addSaturated (-4096) 30000 = 25904 ∧ addSaturated 12288 25000 = 32767 := by decide

/-- R97 at the ends of its ranges, and 06 section 6.8 at frame 4003. -/
theorem test_playIndex : playIndex 0 30 = some 31 ∧ playIndex 0 31 = none ∧ playIndex 0 65520 = none ∧
    playIndex 0 65521 = some (-14) ∧ playIndex 4000 4003 = some 4 ∧ playIndex 4006 4003 = some (-2) := by decide

/-- 05 section 5.10: the bank of the example. -/
def pass5Bank : Bank :=
  { rows := Bank.cleared.rows.set 20
      #v[some { source := 21, kernel := 4, gain := 8192, delay := 0, pulseGain := none }, none, none,
        some { source := 30, kernel := 7, gain := -16384, delay := 1, pulseGain := some 16384 }, none, none, none, none]
    kernels := (Bank.cleared.kernels.set 4 { taps := (Vector.replicate 16 0 |>.set 0 16384).set 1 8192, defined := true }).set 7
      { taps := Vector.replicate 16 0 |>.set 0 12288, defined := true }
    templates := Bank.cleared.templates.set 2 (((Vector.replicate 32 0 |>.set 0 400).set 1 800).set 2 600) }

/-- 05 section 5.10: the state at the boundary of frame 3000. -/
def pass5 : State :=
  { locked with
    banks := { locked.banks with bankA := pass5Bank }
    intake :=
      { history := (locked.intake.history.set 21 ((History.holes.set 0 (some 300)).set 1 (some 200))).set 30
          (((History.holes.set 0 (some 120)).set 1 (some 80)).set 2 (some 40))
        head := some 3000 }
    pool := [{ source := 30, lengthClass := 2, direction := .outward, onset := 3001, position := 0, play := .playing }] }

/-- 05 section 5.10: pass 3000 of target 20. -/
theorem test_pass3000 : deratedValue pass5 3000 20 TargetWork.start = -260 := by decide +kernel

/-- 08 section 8.8: row 17 of the standby bank. -/
def bank8 (gain : Word) : Bank :=
  { rows := Bank.cleared.rows.set 17
      #v[none, some { source := 18, kernel := 3, gain := gain, delay := 2, pulseGain := some 32767 }, none, none, none, none,
        none, some { source := 16, kernel := 5, gain := 4096, delay := 1, pulseGain := some 6000 }]
    kernels := (Bank.cleared.kernels.set 3
        { taps := (((Vector.replicate 16 0 |>.set 0 32767).set 1 5000).set 2 3000).set 3 (-1000), defined := true }).set 5
      { taps := (Vector.replicate 16 0 |>.set 0 8192).set 1 4096, defined := true }
    templates := Bank.cleared.templates }

/-- 08 section 8.8: the row load, before and after the correction. -/
theorem test_rowLoad : rowLoad (bank8 25904) (bank8 25904).rows[17] = 1132264016 ∧ rowLoad (bank8 15904) (bank8 15904).rows[17] = 714594016 := by
  decide +kernel

/-- 07 section 7.8: the 16th saturated result, and the end of a recovery run of 256. -/
theorem test_ladder :
    applyResult Limits.defaults true { level := .normal, saturation := 60, recovery := 0 } =
      { level := .level1, saturation := 0, recovery := 0 } ∧
    applyResult { Limits.defaults with recoveryPeriod := 256 } false { level := .level2, saturation := 0, recovery := 255 } =
      { level := .level1, saturation := 0, recovery := 0 } := by decide

/-! One step of each command -/

/-- What a state shows of one command: the answer's status and payload. -/
def answered (i : Instr) (s : State) : Byte × Vector Byte 8 :=
  let t := after (exec i s)
  (answerOf t, payloadAnswered t)

theorem test_status : answered (.status (req 5 zeroPayload)) locked = (0, #v[0, 0, 0, 0, 0, 0, 0, 0]) := by decide +kernel
theorem test_claim_held : answered (.claim (req 22 zeroPayload)) owner = (4, #v[1, 0, 0, 0, 0, 0, 0, 0]) := by decide +kernel
theorem test_claim_free : lockOf (after (exec (.claim (req 3 #v[3, 0, 0, 0, 0, 0, 0, 0])) locked)).mgmt.locks .profile =
    some { manager := 1, tag := 3, lease := 0 } := by decide +kernel
theorem test_release : answered (.release (req 21 zeroPayload)) owner = (0, zeroPayload) ∧
    answered (.release (req 22 zeroPayload)) owner = (3, zeroPayload) := by decide +kernel
theorem test_select : answered (.select (req 0 #v[13, 0, 3, 255, 0, 0, 0, 0])) locked = (0, #v[13, 0, 3, 255, 4, 0, 0, 0]) := by
  decide +kernel
theorem test_select_refused : (answered (.select (req 0 #v[14, 0, 0, 0, 0, 0, 0, 0])) locked).1 = 6 ∧
    (answered (.select (req 0 #v[13, 0, 4, 0, 0, 0, 0, 0])) locked).1 = 5 ∧
    (answered (.select (req 0 #v[8, 1, 0, 0, 0, 0, 0, 0])) locked).1 = 7 := by decide +kernel

/-- 04 section 4.12, step 2 (gain -4,096, pulse gain 12,288), on item 137. -/
theorem test_dataStandbyCtReplace :
    let t := after (exec (.dataStandbyCtReplace (req 21 #v[3, 18, 3, 2, 0xF0, 0, 0x30, 0])) (opened .standbyCt 137 .replace))
    answerOf t = 0 ∧ payloadAnswered t = #v[0, 137, 0, 0, 0, 0, 0, 0] ∧
      t.banks.bankB.rows[17][1] = some { source := 18, kernel := 3, gain := -4096, delay := 2, pulseGain := some 12288 } ∧
      (contextOf (req 21 zeroPayload) t).index = 138 := by decide +kernel
/-- 04 section 4.12, steps 4 and 5. -/
theorem test_dataStandbyCtReplace_refused :
    (answered (.dataStandbyCtReplace (req 21 #v[1, 17, 9, 0, 3, 0xE8, 0, 0])) (opened .standbyCt 138 .replace)).1 = 8 ∧
    (answered (.dataStandbyCtReplace (req 21 #v[1, 25, 40, 20, 7, 0xD0, 0, 0])) (opened .standbyCt 138 .replace)).1 = 8 := by
  decide +kernel
/-- 04 section 4.12, step 7: an ADD to an absent position. -/
theorem test_dataStandbyCtAdd_absent :
    (answered (.dataStandbyCtAdd (req 21 #v[0, 0, 0, 0, 1, 0xF4, 0, 0])) (opened .standbyCt 139 .add)).1 = 8 := by decide +kernel
/-- 04 section 4.12, step 6: gain +30,000 and pulse gain +25,000 on item 137. -/
theorem test_dataStandbyCtAdd :
    let s := opened .standbyCt 137 .add
    let held := { s with banks := { s.banks with bankB := bank8 (-4096) } }
    (after (exec (.dataStandbyCtAdd (req 21 #v[2, 0, 0, 0, 0x75, 0x30, 0x61, 0xA8])) held)).banks.bankB.rows[17][1] =
      some { source := 18, kernel := 3, gain := 25904, delay := 2, pulseGain := some 32767 } := by decide +kernel
theorem test_dataStandbyKernelReplace :
    let t := after (exec (.dataStandbyKernelReplace (req 21 #v[0x7F, 0xFF, 0, 1, 0, 2, 0, 3])) (opened .standbyKernel 15 .replace))
    t.banks.bankB.kernels[3].defined = true ∧ t.banks.bankB.kernels[3].taps[12] = 0x7FFF ∧
      t.banks.bankB.kernels[3].taps[15] = 3 ∧ t.banks.bankB.kernels[3].taps[11] = 0 := by decide +kernel
theorem test_dataStandbyKernelAdd :
    let s := opened .standbyKernel 12 .add
    let held := { s with banks := { s.banks with bankB := bank8 0 } }
    (after (exec (.dataStandbyKernelAdd (req 21 #v[0, 1, 0xFF, 0xFF, 0, 0, 0, 0])) held)).banks.bankB.kernels[3].taps[0] = 32767 ∧
    (after (exec (.dataStandbyKernelAdd (req 21 #v[0, 1, 0xFF, 0xFF, 0, 0, 0, 0])) held)).banks.bankB.kernels[3].taps[1] = 4999 := by
  decide +kernel
theorem test_dataStandbyTemplate :
    (after (exec (.dataStandbyTemplate (req 21 #v[0, 1, 0, 2, 0, 3, 0, 4])) (opened .standbyTemplate 63 .add))).banks.bankB.templates[7][31] = 4 := by
  decide +kernel
theorem test_dataSlotmap :
    let t := after (exec (.dataSlotmap (req 21 #v[255, 0, 0, 0, 0, 0, 0, 0])) (opened .slotmap 63 .replace))
    t.slots.map[63] = none ∧ (contextOf (req 21 zeroPayload) t).state = .exhausted := by decide +kernel
theorem test_dataSlotmap_refused :
    (answered (.dataSlotmap (req 21 #v[64, 0, 0, 0, 0, 0, 0, 0])) (opened .slotmap 0 .replace)).1 = 8 ∧
    (answered (.dataSlotmap (req 21 #v[1, 0, 0, 0, 0, 0, 0, 0])) (opened .slotmap 0 .replace)).1 = 8 := by decide +kernel
theorem test_dataTargets :
    (after (exec (.dataTargets (req 21 #v[1, 0, 0, 0, 0, 0, 0, 0x80])) (opened .targets 0 .clear))).slots.targets =
      0x7FFFFFFFFFFFFFFE := by decide +kernel
theorem test_dataMutes :
    let t := after (exec (.dataMutes (req 21 #v[0, 0, 0, 0, 0, 0, 0, 0x80])) (opened .mutes 0 .set))
    t.limit.muteSet = 0x8000000000000000 ∧ t.limit.records[63].level = .muted ∧ t.limit.records[62].level = .normal := by
  decide +kernel
theorem test_dataLimits :
    (after (exec (.dataLimits (req 21 #v[4, 0, 0, 0, 0, 0, 0, 0])) (opened .limits 0 .replace))).limit.params.saturationThreshold =
      1024 ∧
    (answered (.dataLimits (req 21 #v[4, 1, 0, 0, 0, 0, 0, 0])) (opened .limits 0 .replace)).1 = 8 := by decide +kernel
theorem test_dataAlertmap :
    (after (exec (.dataAlertmap (req 21 #v[1, 2, 0, 0, 0, 0, 0, 0])) (opened .alertmap 15 .replace))).alerts.map[15] =
      { masked := true, route := .both } ∧
    (answered (.dataAlertmap (req 21 #v[1, 3, 0, 0, 0, 0, 0, 0])) (opened .alertmap 15 .replace)).1 = 8 := by decide +kernel
theorem test_data_readOnly : (answered (.dataLimits (req 21 zeroPayload)) (opened .pulses 0 .plain)).1 = 7 ∧
    (answered (.dataLimits (req 21 zeroPayload)) owner).1 = 5 := by decide +kernel
theorem test_read_slotmap : answered (.read (req 0 zeroPayload)) (opened .slotmap 63 .replace) = (0, #v[63, 0, 0, 0, 0, 0, 0, 0]) := by
  decide +kernel
theorem test_read_kernel :
    let s := opened .standbyKernel 12 .add
    answered (.read (req 0 zeroPayload)) { s with banks := { s.banks with bankB := bank8 0 } } =
      (0x80, #v[0x7F, 0xFF, 0x13, 0x88, 0x0B, 0xB8, 0xFC, 0x18]) := by decide +kernel
theorem test_readCounters :
    let s := opened .counters 7 .plain
    let t := after (exec (.readCounters (req 0 zeroPayload)) { s with counters := Vector.replicate 10 0x1234 })
    payloadAnswered t = #v[0x12, 0x34, 0, 0, 0, 0, 0, 0] ∧ t.counters = (Vector.replicate 10 0x1234).set 7 0 := by decide +kernel
theorem test_readCapture :
    let s := opened .capture 0 .plain
    let row : CaptureRow := { frame := 5, items := #v[some { sample := none, last := -2, status := .held }, none, none, none] }
    answered (.readCapture (req 0 zeroPayload)) s = (10, zeroPayload) ∧
    answered (.readCapture (req 0 zeroPayload)) { s with capture := { s.capture with state := .done, rows := [row] } } =
      (0x80, #v[0, 0, 1, 0xFF, 0xFE, 2, 0, 5]) := by decide +kernel
theorem test_commit : (after (exec (.commit (req 21 zeroPayload)) owner)).banks.engine = .validating ∧
    (answered (.commit (req 21 zeroPayload)) { owner with banks := { owner.banks with standbyCondition := .torn } }).1 = 9 := by
  decide +kernel
theorem test_resync : (after (exec (.resync (req 21 zeroPayload)) owner)).banks.operation = some .resync := by decide +kernel
theorem test_clearStandby :
    (after (exec (.clearStandby (req 21 zeroPayload)) { owner with banks := { owner.banks with bankB := bank8 0 } })).banks.bankB.kernels[3] =
      Kernel.cleared := by decide +kernel
theorem test_mode : (after (exec (.mode (req 21 #v[2, 0, 0, 0, 0, 0, 0, 0])) owner)).limit.request = some .freeze ∧
    (answered (.mode (req 21 #v[3, 0, 0, 0, 0, 0, 0, 0])) owner).1 = 8 := by decide +kernel
theorem test_armCapture :
    let t := after (exec (.armCapture (req 21 #v[0x83, 0, 0, 0xBF, 1, 63, 192, 0])) owner)
    t.capture.state = .armed ∧ t.capture.channels = #v[some 3, none, none, some 63] ∧ t.capture.trigger = .seek 63 ∧
      t.capture.preTrigger = 192 := by decide +kernel
theorem test_armCapture_refused : (answered (.armCapture (req 21 #v[0x83, 0, 0, 0, 2, 0, 193, 0])) owner).1 = 8 ∧
    (answered (.armCapture (req 21 #v[3, 0, 0, 0, 0, 0, 0, 0])) owner).1 = 8 := by decide +kernel
theorem test_persist :
    let t := after (exec (.persist (req 21 zeroPayload)) owner)
    t.profile.condition = .torn ∧ t.profile.running.isSome = true := by decide +kernel
theorem test_ackAlert : (after (exec (.ackAlert (req 0 #v[0x40, 0, 0, 0, 0, 0, 0, 0])) locked)).alerts.pending = 1 := by decide +kernel
theorem test_resetFull :
    let t := after (exec (.resetFull (req 0 #v[1, 0, 0, 0, 0, 0, 0, 0])) owner)
    t.ports.condition = .transparent ∧ t.startUp.phase = .loading ∧ t.startUp.reason = .full ∧ t.mgmt.locks.config = none := by
  decide +kernel
theorem test_resetWarm :
    let t := after (exec (.resetWarm (req 0 zeroPayload)) owner)
    t.ports.condition = .active ∧ t.ports.lock = .searching ∧ t.startUp.reason = .warmInband ∧ t.mgmt.queue = [] ∧
      t.alerts.pending = 1 := by decide +kernel
theorem test_unknownCommand : (answered (.unknownCommand 200 (req 0 zeroPayload)) locked).1 = 8 := by decide +kernel
theorem test_powerUp :
    let t := after (exec (.powerUp { node := 9, startRun := true } true) State.reset)
    t.startUp.node = 9 ∧ t.startUp.phase = .loading ∧ t.limit.mode = .off ∧ t.alerts.pending = 0x4001 := by decide +kernel
theorem test_profileLoadEnd :
    let s := after (exec (.powerUp { node := 9, startRun := true } true) State.reset)
    (after (exec .profileLoadEnd s)).ports.condition = .active := by decide +kernel
theorem test_rstNFall : (after (exec .rstNFall State.reset)).ports.condition = .transparent := by decide +kernel
theorem test_rstNRise :
    (after (exec (.rstNRise { node := 3, startRun := true }) (after (exec .rstNFall State.reset)))).startUp.reason = .warmLine := by
  decide +kernel
theorem test_lossOfPower : (after (exec .lossOfPower owner)).startUp.phase = .unpowered := by decide +kernel

/-! One step of each event -/

theorem test_attach :
    let f := withCell frame7 3 (sample 77)
    (returned f locked).slots.records[3] = { state := .settling, settle := 256 } ∧ (returned f locked).intake.history[3][0] = some 77 ∧
      (returned f locked).alerts.pending = 0x5001 := by
  simp only []
  rw [returned_eq _ _ rfl rfl rfl rfl]
  decide +kernel

/-- 03 section 3.12: a sample equal to the threshold counts, one below it does not; -32,768 counts. -/
theorem test_shockCount :
    let f := withCell (withCell (withCell frame7 3 (sample 20000)) 6 (sample 19999)) 9 (sample (-32768))
    let records := ((Vector.replicate 64 SlotRecord.initial |>.set 3 { state := .settling, settle := 9 }).set 6
      { state := .attached, settle := 0 }).set 9 { state := .attached, settle := 0 }
    shocksOf f { locked.slots with records := records } 20000 = 2 := by decide +kernel

/-- A state with one instance playing its last sample, slot 5 attached, in FREEZE. -/
def seeking : State :=
  { locked with
    limit := { locked.limit with mode := .freeze }
    pool := [{ source := 5, lengthClass := 1, direction := .inward, onset := 0xFFE8, position := 30, play := .playing }] }

/-- R163: a boundary at which nothing happens raises nothing. -/
theorem test_quietBoundary : (returned frame7 locked).alerts.pending = locked.alerts.pending := by
  rw [returned_eq _ locked rfl rfl rfl rfl]
  decide +kernel

theorem test_retire_and_insert :
    let f := withCell frame7 3 { cell0 with flags := 13, notice := 0x22 }
    (returned f seeking).pool =
      [{ source := 3, lengthClass := 2, direction := .outward, onset := 9, position := -1, play := .pending }] := by
  simp only []
  rw [returned_eq _ seeking rfl rfl rfl rfl]
  decide +kernel

theorem test_targetCompletion :
    let s := { pass5 with coupling := { pass5.coupling with
      pass := some { frame := 3000, next := 20, saturationSeen := false, work := TargetWork.start } } }
    let t := after (exec .targetCompletion s)
    t.coupling.targets[20] = { last := -260, stamp := some 3000, fresh := true } ∧ (t.coupling.pass.map (·.next)) = some 21 := by
  decide +kernel

/-- A piece of the work of target 20, done by a step with nothing waiting. -/
theorem test_step_idle :
    let s := { pass5 with coupling := { pass5.coupling with
      pass := some { frame := 3000, next := 20, saturationSeen := false, work := TargetWork.start } } }
    (after (step s)).coupling.pass.map (·.work) = some { position := 1, sum := 3276800, derated := none } := by decide +kernel

theorem test_outboundCellArrival :
    let s := { locked with
      limit := { locked.limit with mode := .run }
      ports := { locked.ports with composing := some { frame := blank 8 4, next := 0, reset := none } } }
    let t := after (exec .outboundCellArrival s)
    (t.ports.composing.map (·.next)) = some 1 ∧ t.counters[3] = 1 ∧ t.alerts.pending = 0x4401 ∧
      (t.ports.composing.map (·.frame.cells[0].status)) = some 2 := by decide +kernel

theorem test_lineIdle : (after (exec .lineIdle locked)).ports.lock = .searching := by decide +kernel
theorem test_lockLoss : (after (exec .lockLoss seeking)).pool = [] := by decide +kernel
theorem test_settleEnd :
    let s := { locked with slots := { locked.slots with records := locked.slots.records.set 2 { state := .settling, settle := 1 } } }
    (after (exec (.settleEnd 2) s)).slots.records[2] = { state := .attached, settle := 0 } := by decide +kernel

/-- A shock hold at its last boundary. -/
def holding : State :=
  { locked with limit := { locked.limit with mode := .shockHold, saved := some .freeze, holdOff := 1 } }

theorem test_shockExit : (after (exec .shockExit holding)).limit.mode = .freeze := by decide +kernel

/-- Every domain at its last boundary, a PERSIST at its last boundary. -/
def lasting : State :=
  { locked with
    mgmt := { locked.mgmt with locks := { locked.mgmt.locks with config := some { holder with lease := 32767 } } }
    profile := { locked.profile with condition := .torn, running := some { snapshot := takeSnapshot locked, count := 19999 } } }

theorem test_lockExpiry : (after (exec (.lockExpiry .config) lasting)).mgmt.locks.config = none := by decide +kernel
theorem test_persistTimeLimit : (after (exec .persistTimeLimit lasting)).profile.running = none ∧
    (after (exec .persistTimeLimit lasting)).alerts.pending = 0x4041 := by decide +kernel

/-- The Bank Engine in a state, with progress r, for a COMMIT. -/
def engineIn (e : EngineState) (r : Nat) : State :=
  { locked with banks := { locked.banks with bankB := bank8 15904, engine := e, progress := r, operation := some .commit } }

theorem test_bankSwap :
    let t := after (exec .bankSwap (engineIn .swapPending 0))
    t.banks.liveId = .b ∧ t.banks.generation = 1 ∧ t.banks.engine = .resync := by decide +kernel
theorem test_resyncCopyEnd : (after (exec .resyncCopyEnd (engineIn .resync 192))).banks.engine = .idle ∧
    (after (exec .resyncCopyEnd (engineIn .resync 192))).alerts.pending = 0x4021 := by decide +kernel

/-- A capture of slot 2 with one item to go. -/
def filling : State :=
  { locked with capture :=
    { Capture.initial with
      state := .filling, channels := #v[some 2, none, none, none], preTrigger := 192, remaining := 1
      begun := some { frame := 6, entries := Vector.replicate 4 none } } }

theorem test_captureComplete : (after (exec .captureComplete filling)).capture.state = .done ∧
    (after (exec .captureComplete filling)).capture.rows.length = 1 := by decide +kernel

/-- A PERSIST in progress. -/
def persisting : State :=
  { locked with profile :=
    { locked.profile with condition := .torn, running := some { snapshot := takeSnapshot locked, count := 0 } } }

theorem test_persistEnd : (after (exec (.persistEnd .differs) persisting)).profile.condition = .torn ∧
    (after (exec (.persistEnd .matches) persisting)).profile.condition = .good := by decide +kernel

/-- R13: a malformed frame is a bad frame. -/
theorem test_badOutboundFrame : (after (exec (.outboundFrame (blank 8 65) .current .atOnce) locked)).ports.badRun = 1 ∧
    (after (exec (.outboundFrame (blank 8 0) .current .atOnce) locked)).counters[0] = 1 := by decide +kernel

/-- A command cell of manager 1 with tag 21 to a destination. -/
def command (destination : BitVec 4) (code : Byte) (p : Vector Byte 8) : MgmtCell :=
  { head := destination ++ (5 : BitVec 4), tagByte := 21, seq := 9, code := code, status := 0, payload := p }

/-- Frame n with a command area. -/
def carrying (n : Word) (cells : Vector MgmtCell 4) : Frame := { blank n 64 with commands := cells }

theorem outbound_eq (f : Frame) (m : Composition) (s : State) (hu : f.used = 64) (hp : s.ports = locked.ports)
    (hs : s.startUp.phase = .running) :
    exec (.outboundFrame (regenerate f) .current m) s = .next (lockedOutbound (regenerate f) m s) := by
  have hg : goodCheck (regenerate f) = true := by rw [goodCheck_regenerate, validUsed, hu]; rfl
  have hq : Quiet s := ⟨by rw [hs]; decide, by rw [hp]; rfl⟩
  have hc : s.ports.condition = .active := by rw [hp]; rfl
  have hl : s.ports.lock = .locked := by rw [hp]; rfl
  simp [exec, execOutboundFrame, hs, finishPassage_quiet s hq, hc, hl, hg]

/-- A frame in composition: the number of its cells that have arrived, and the RESET taken in it. -/
def composing (f : Frame) (n : Nat) (k : Option ResetKind) : State :=
  { locked with ports := { locked.ports with frameMatch := .spent, composing := some { frame := f, next := n, reset := k } } }

theorem lawful_locked : PortsLawful locked := by
  refine ⟨?_, ?_, ?_, ?_, ?_, ?_, fun c h => absurd h (by simp [locked, State.reset, LoopPorts.initial])⟩ <;> decide

theorem lawful_composing (f : Frame) (n : Nat) (k : Option ResetKind) (hf : validUsed f = true) (hn : n < f.used.toNat + 4) :
    PortsLawful (composing f n k) := by
  refine ⟨?_, ?_, ?_, ?_, ?_, ?_, fun c h => ?_⟩
  · exact ⟨fun _ => ⟨rfl, rfl⟩, fun _ => rfl⟩
  · exact ⟨fun _ => rfl, fun _ => rfl⟩
  · exact ⟨fun h => (nomatch h), fun h => (nomatch h)⟩
  · exact fun _ => rfl
  · exact fun _ => rfl
  · exact show (0 : Nat) < 8 by decide
  · obtain rfl := Option.some.inj h
    exact ⟨rfl, rfl, by simp [composing], hf, hn⟩

/-- R12: taken by node number the cell goes out EMPTY, taken by 15 unchanged; the answers queue in cell order. -/
theorem test_commandArea :
    let f := carrying 8 #v[command 0 2 zeroPayload, command 15 13 #v[0xFF, 0xFF, 0, 0, 0, 0, 0, 0], command 1 1 zeroPayload, emptyCell]
    let t := after (exec (.outboundFrame (regenerate f) .current .atOnce) locked)
    t.mgmt.queue.length = 2 ∧ t.mgmt.locks.standby = some { manager := 1, tag := 21, lease := 0 } ∧ t.alerts.pending = 0 ∧
      (t.ports.outbOut.map (·.commands)) = some (f.commands.set 0 emptyCell) := by
  simp only []
  rw [outbound_eq _ _ _ rfl rfl rfl]
  decide +kernel

/-- R7: a passage cut behind its first command cell leaves the second as received. -/
theorem test_cutCommandArea :
    let f := carrying 8 #v[command 0 2 zeroPayload, command 0 13 zeroPayload, emptyCell, emptyCell]
    let t := after (exec (.outboundFrame (regenerate f) .current (.cut 1)) locked)
    t.mgmt.queue.length = 1 ∧ (t.ports.outbOut.map (·.commands)) = some (f.commands.set 0 emptyCell) := by
  simp only []
  rw [outbound_eq _ _ _ rfl rfl rfl]
  decide +kernel

/-- R12, R159: a RESET WARM leaves the cells behind it alone, and the reset begins when the frame has gone out. -/
theorem test_resetInFrame :
    let f := carrying 8 #v[command 0 14 zeroPayload, command 0 2 zeroPayload, emptyCell, emptyCell]
    let t := after (exec (.outboundFrame (regenerate f) .current .atOnce) owner)
    t.ports.lock = .searching ∧ t.mgmt.locks.standby = none ∧ t.startUp.reason = .warmInband ∧
      (t.ports.outbOut.map (·.commands)) = some (f.commands.set 0 emptyCell) := by
  simp only []
  rw [outbound_eq _ _ owner rfl rfl rfl]
  decide +kernel

/-- R12, log 2: behind the used slot cells a command cell arrives and is taken; the passage goes on. -/
theorem test_commandCellArrival :
    let t := after (exec .outboundCellArrival (composing (carrying 8 (Vector.replicate 4 (command 0 2 zeroPayload))) 65 none))
    t.mgmt.queue.length = 1 ∧
      (t.ports.composing.map fun c => (c.next, c.frame.commands[1], c.frame.commands[2])) =
        some (66, emptyCell, command 0 2 zeroPayload) := by decide +kernel

/-- R7, log 18: RST_N falling within the command area; the cells from there on go out as received. -/
theorem test_cutInCommandArea :
    let s := composing (carrying 8 (Vector.replicate 4 (command 0 2 zeroPayload))) 65 none
    let t := after (exec .rstNFall (after (exec .outboundCellArrival s)))
    t.ports.condition = .transparent ∧ t.ports.composing = none ∧ t.mgmt.queue.length = 1 ∧
      (t.ports.outbOut.map fun f => (f.commands[1], f.commands[2])) = some (emptyCell, command 0 2 zeroPayload) := by
  decide +kernel

/-- R131, log 20: RST_N falling abandons a pass without an overrun. -/
theorem test_rstNFallAbandons :
    let s := { pass5 with coupling := { pass5.coupling with
      pass := some { frame := 3000, next := 20, saturationSeen := false, work := TargetWork.start } } }
    let t := after (exec .rstNFall s)
    t.coupling.pass = none ∧ t.counters[4] = 0 ∧ t.intake.history[21][0] = none ∧ t.intake.head = some 3000 := by decide +kernel

/-- R52, R74: BANK_SWAP abandons a pass as an overrun. -/
theorem test_bankSwapAbandons :
    let s := { engineIn .swapPending 0 with coupling := { locked.coupling with
      pass := some { frame := 6, next := 20, saturationSeen := false, work := TargetWork.start } } }
    let t := after (exec .bankSwap s)
    t.coupling.pass = none ∧ t.counters[4] = 1 ∧ t.banks.liveId = .b := by decide +kernel

/-! Witnesses: the hypotheses of each statement, clause by clause, are met together -/

theorem good (f : Frame) (h : f.used = 64) : goodCheck (regenerate f) = true := by
  rw [goodCheck_regenerate, validUsed, h]; rfl

theorem bad0 : goodCheck (blank 8 0) = false := by decide

theorem identityMap_injective : MapInjective identityMap := by
  intro t u c ht hu
  simp [identityMap] at ht hu
  exact ht.trans hu.symm

/-- Statement StepWithNothingWaiting. -/
theorem test_witness_step : locked.pending = [] ∧ locked.coupling.pass = none ∧
    ∃ (s : State) (p : Pass), s.pending = [] ∧ s.coupling.pass = some p :=
  ⟨rfl, rfl, { locked with coupling := { locked.coupling with
    pass := some { frame := 7, next := 63, saturationSeen := false, work := TargetWork.start } } }, _, rfl, rfl⟩

/-- State.reset with a lock candidate. -/
def candidate (p : Word) : State := { State.reset with ports := { State.reset.ports with candidate := some p } }

/-- Statement SearchingAcquiresLock: without a candidate, with one that is followed across the wrap, and with one that is not. -/
theorem test_witness_searching :
    (∀ s, s = State.reset ∨ s = candidate 0xFFFF → Quiet s ∧ s.ports.condition = .active ∧ s.ports.lock = .searching) ∧
    goodCheck (blank 8 0) = false ∧
    (goodCheck (regenerate frame7) = true ∧ State.reset.ports.candidate = none) ∧
    (∃ f : Frame, goodCheck (regenerate f) = true ∧ (candidate 0xFFFF).ports.candidate = some 0xFFFF ∧
      (regenerate f).number = 0xFFFF + 1) ∧
    (regenerate frame7).number ≠ 7 + 1 := by
  refine ⟨?_, bad0, ⟨good _ rfl, rfl⟩, ⟨blank 0 64, good _ rfl, rfl, rfl⟩, by decide⟩
  rintro s (rfl | rfl) <;> exact ⟨⟨by decide, rfl⟩, rfl, rfl⟩

/-- Statement LockIsLost: no passage, one in its slot cells, one behind a RESET. -/
theorem test_witness_lockIsLost : OnLoop locked ∧ locked.ports.composing = none ∧ OnLoop (composing (blank 8 4) 0 none) ∧
    (composing (blank 8 4) 0 none).ports.composing = some { frame := blank 8 4, next := 0, reset := none } ∧
    OnLoop (composing (blank 8 4) 6 (some .warm)) ∧
    (composing (blank 8 4) 6 (some .warm)).ports.composing = some { frame := blank 8 4, next := 6, reset := some .warm } :=
  ⟨⟨rfl, rfl⟩, rfl, ⟨rfl, rfl⟩, rfl, ⟨rfl, rfl⟩, rfl⟩

/-- Statement BadOutboundFrames: the bad run at 6 and at 7. -/
theorem test_witness_badOutbound :
    (∀ n, Quiet { locked with ports := { locked.ports with badRun := n } }) ∧ goodCheck (blank 8 0) = false ∧
    State.reset.ports.lock = .searching ∧ locked.ports.lock = .locked ∧ 6 + 1 < 8 ∧ 8 ≤ 7 + 1 :=
  ⟨fun _ => ⟨show locked.startUp.phase ≠ .unpowered by decide, rfl⟩, bad0, rfl, rfl, by decide, by decide⟩

/-- Statement TransparentForwarding: a cut behind every command cell and before the first, a cut return that matches and one that
does not. -/
theorem test_witness_transparent :
    Quiet { locked with ports := { locked.ports with condition := .transparent } } ∧ Quiet locked ∧
    locked.startUp.phase ≠ .unpowered ∧ (after (exec .lossOfPower locked)).startUp.phase = .unpowered ∧
    OnLoop locked ∧ goodCheck (regenerate (blank 8 64)) = true ∧
    (∀ i : Fin 4, 4 ≤ i.val → addressedTo locked.startUp.node (blank 8 64).commands[i] = false) ∧
    (∀ i : Fin 4, 0 ≤ i.val → addressedTo locked.startUp.node (blank 8 64).commands[i] = false) ∧
    Matching (regenerate frame7) locked ∧ PortsLawful locked ∧ QueueLawful locked ∧ ¬ Matching (blank 7 0) locked :=
  ⟨⟨by decide, rfl⟩, ⟨by decide, rfl⟩, by decide, rfl, ⟨rfl, rfl⟩, good _ rfl, by decide, by decide, matching _ _ rfl rfl rfl rfl,
    lawful_locked, ⟨by decide, fun e h => nomatch h⟩, fun h => absurd h.2.2.1 (by decide)⟩

/-- Statement GoodOutboundFramesBegin: gaps of 0, 1, 31, 32 and 65,535, frame 7 awaited and not, a by-cell frame that goes on, the first
and the last used cell of one in composition, and its first and last command cell; a frame that finds one in composition. -/
theorem test_witness_goodOutbound :
    Quiet locked ∧ OnLoop locked ∧ locked.ports.lastGood = some { number := 7, used := 64 } ∧
    (∀ n : Word, goodCheck (regenerate (blank n 64)) = true) ∧
    ((8 - 7 - 1 : Word).toNat = 0 ∧ (9 - 7 - 1 : Word).toNat = 1 ∧ (39 - 7 - 1 : Word).toNat = 31 ∧ (40 - 7 - 1 : Word).toNat = 32 ∧
      (7 - 7 - 1 : Word).toNat = 65535) ∧
    (∃ t, exec (.outboundFrame (regenerate (blank 8 64)) .current .byCell) locked = .next t) ∧
    (PortsLawful (composing (blank 8 64) 0 none) ∧ PortsLawful (composing (blank 8 64) 63 none) ∧ 63 < (blank 8 64).used.toNat ∧
      ∃ t, exec .outboundCellArrival (composing (blank 8 64) 63 none) = .next t) ∧
    (PortsLawful (composing (blank 8 64) 64 none) ∧ PortsLawful (composing (blank 8 64) 67 (some .full)) ∧
      (after (exec .outboundCellArrival (composing (blank 8 4) 7 none))).ports.composing = none) ∧
    (composing (blank 8 64) 67 none).startUp.phase ≠ .unpowered ∧ (composing (blank 8 64) 67 none).ports.composing.isSome = true :=
  ⟨⟨by decide, rfl⟩, ⟨rfl, rfl⟩, rfl, fun n => good _ rfl, by decide, ⟨_, outbound_eq _ _ _ rfl rfl rfl⟩,
    ⟨lawful_composing _ _ _ (by decide) (by decide), lawful_composing _ _ _ (by decide) (by decide), by decide, _, rfl⟩,
    ⟨lawful_composing _ _ _ (by decide) (by decide), lawful_composing _ _ _ (by decide) (by decide), by decide +kernel⟩, by decide, rfl⟩

/-- The eight cases of the output selection, for slot 3 in frame 8. -/
def selecting (settling member muted : Bool) (mode : OperatingMode) (fresh : Bool) : State :=
  { locked with
    slots := { locked.slots with
      records := if settling then locked.slots.records.set 3 { state := .settling, settle := 256 } else locked.slots.records
      targets := if member then 8 else 0 }
    limit := { locked.limit with mode := mode, muteSet := if muted then 8 else 0 }
    coupling := { locked.coupling with targets := locked.coupling.targets.set 3 { last := 500, stamp := some 7, fresh := fresh } } }

theorem test_witness_selects :
    Selects (selecting true true true .run true) 8 3 0 .settling false ∧ Selects (selecting false false true .run true) 8 3 0 .off false ∧
    Selects (selecting false true true .run true) 8 3 0 .muted false ∧ Selects (selecting false true false .off true) 8 3 0 .off false ∧
    Selects (selecting false true false .shockHold true) 8 3 0 .shock false ∧
    Selects (selecting false true false .freeze true) 8 3 500 .held false ∧
    Selects (selecting false true false .run true) 8 3 500 .fresh false ∧
    Selects (selecting false true false .run false) 8 3 500 .held true := by
  simp only [selects_iff]
  decide +kernel

/-- Statement OutboundCellsCarryTheSelection: an unused position, an unmapped one, a mapped one, the last position. -/
theorem test_witness_outboundCells :
    Quiet locked ∧ OnLoop locked ∧ goodCheck (regenerate (blank 8 4)) = true ∧ MapInjective locked.slots.map ∧
    (regenerate (blank 8 4)).used.toNat ≤ (4 : Fin 64).val ∧
    (∀ u : Slot, (after (exec (.dataSlotmap (req 21 #v[255, 0, 0, 0, 0, 0, 0, 0])) (opened .slotmap 3 .replace))).slots.map[u] ≠ some 3) ∧
    (locked.slots.map[(63 : Fin 64)] = some 63 ∧ (63 : Fin 64).val < (regenerate (blank 8 64)).used.toNat) := by
  refine ⟨⟨by decide, rfl⟩, ⟨rfl, rfl⟩, ?_, identityMap_injective, by decide, by decide +kernel, by decide⟩
  rw [goodCheck_regenerate]; decide

/-- Slot 63 is mapped to no cell. -/
def unmapped : State := { opened .slotmap 63 .replace with slots := { owner.slots with map := identityMap.set 63 none } }

/-- Statement CellsAreComposedAndThePassageEnds, slot cells: the first and the last of 4 and of 64, mapped and unmapped, without and
with a deadline miss. -/
theorem test_witness_cells :
    (∀ f n k, (composing f n k).ports.composing = some { frame := f, next := n, reset := k }) ∧
    (∀ f n k, MapInjective (composing f n k).slots.map) ∧
    ((3 : Fin 64).val < (blank 8 4).used.toNat ∧ (63 : Fin 64).val < (blank 8 64).used.toNat) ∧
    (∀ t : Slot, identityMap[t] = some t) ∧ (∀ u : Slot, unmapped.slots.map[u] ≠ some (63 : Fin 64)) ∧
    Selects (composing (blank 8 64) 63 none) 8 63 0 .off false ∧
    Selects { composing (blank 8 64) 63 none with limit := { locked.limit with mode := .run } } 8 63 0 .held true :=
  ⟨fun _ _ _ => rfl, fun _ _ _ => identityMap_injective, by decide, by decide +kernel, by decide +kernel,
    (selects_iff ..).2 (by decide +kernel), (selects_iff ..).2 (by decide +kernel)⟩

/-- The frame with this cell in every place of its command area. -/
def allCells (c : MgmtCell) : Frame := carrying 8 (Vector.replicate 4 c)

/-- Statement CellsAreComposedAndThePassageEnds, command cells 0 and 3: not addressed to the part, behind a RESET, with a full queue,
a RESET, another command; the row of one completes. -/
theorem test_witness_commandCellArrives :
    (∀ c n k, OnLoop (composing (allCells c) n k) ∧ (composing (allCells c) (64 + n) k).ports.composing =
      some { frame := allCells c, next := (allCells c).used.toNat + n, reset := k }) ∧
    addressedTo locked.startUp.node (allCells emptyCell).commands[(0 : Fin 4)] = false ∧
    (∀ j : Fin 4, addressedTo locked.startUp.node (allCells (command 0 14 zeroPayload)).commands[j] = true ∧
      (allCells (command 0 14 zeroPayload)).commands[j].code = 14) ∧
    (∀ j : Fin 4, addressedTo locked.startUp.node (allCells (command 15 2 zeroPayload)).commands[j] = true ∧
      (allCells (command 15 2 zeroPayload)).commands[j].code ≠ 14) ∧
    (¬ 8 ≤ locked.mgmt.queue.length ∧ 8 ≤ (List.replicate 8 (QueueEntry.ready emptyCell)).length) ∧
    (∃ u, exec (rowOf 2 (req 21 zeroPayload)) (composing (allCells (command 15 2 zeroPayload)) 67 none) = .next u) :=
  ⟨fun _ _ _ => ⟨⟨rfl, rfl⟩, rfl⟩, by decide +kernel, by decide +kernel, by decide +kernel, by decide, _, rfl⟩

/-- Statement CommandCellsRunTheirRows: a cell to the node and a cell to 15, one alone and one behind another; the state that the
frame without the last cell leaves is LOCKED, and SEARCHING behind a RESET. -/
theorem test_witness_commandCells :
    let alone := carrying 8 #v[emptyCell, emptyCell, emptyCell, command 0 14 zeroPayload]
    let two := carrying 8 #v[command 15 200 zeroPayload, command 0 2 zeroPayload, emptyCell, emptyCell]
    let behind := carrying 8 #v[command 0 14 zeroPayload, emptyCell, emptyCell, command 0 2 zeroPayload]
    (Quiet locked ∧ OnLoop locked ∧ goodCheck (regenerate alone) = true ∧ goodCheck (regenerate two) = true ∧
      goodCheck (regenerate behind) = true) ∧
    addressedTo locked.startUp.node (regenerate alone).commands[(3 : Fin 4)] = true ∧
    (addressedTo locked.startUp.node (regenerate two).commands[(1 : Fin 4)] = true ∧
      (∀ j : Fin 4, 1 < j → addressedTo locked.startUp.node (regenerate two).commands[j] = false) ∧
      (∀ j : Fin 4, j < 1 → addressedTo locked.startUp.node (regenerate two).commands[j] = true ∧
        (regenerate two).commands[j].code ≠ 14)) ∧
    (addressedTo locked.startUp.node (regenerate behind).commands[(3 : Fin 4)] = true ∧
      (after (exec (.outboundFrame (regenerate { behind with commands := behind.commands.set 3 emptyCell }) .current .atOnce)
        locked)).ports.lock = .searching) := by
  refine ⟨⟨⟨by decide, rfl⟩, ⟨rfl, rfl⟩, good _ rfl, good _ rfl, good _ rfl⟩, by decide +kernel, by decide +kernel,
    by decide +kernel, ?_⟩
  rw [outbound_eq _ _ _ rfl rfl rfl]
  decide +kernel

/-- Statement FullQueueDeclines. -/
theorem test_witness_fullQueue :
    (∃ s : State, OnLoop s ∧ Config.queueCapacity ≤ s.mgmt.queue.length) ∧ ¬ OnLoop State.reset ∧
    Instr.mode (req 0 zeroPayload) ∈ commandRows 200 (req 0 zeroPayload) :=
  ⟨⟨{ locked with mgmt := { locked.mgmt with queue := List.replicate 8 (.ready emptyCell) } }, ⟨rfl, rfl⟩, by decide⟩,
    fun h => absurd h.2 (by decide), by simp [commandRows]⟩

/-- Frame 7 no longer awaited. -/
def spent : State := { locked with ports := { locked.ports with frameMatch := .spent } }

/-- Statement FailedReturns: a bad return and one of another number, frame 7 awaited and not. -/
theorem test_witness_failedReturns :
    (OnLoop locked ∧ ¬ Matching (blank 7 0) locked ∧ ¬ Matching (regenerate (blank 8 64)) locked ∧
      locked.ports.frameMatch = .awaiting ∧ locked.ports.lastGood = some { number := 7, used := 64 }) ∧
    (OnLoop spent ∧ ¬ Matching (regenerate frame7) spent ∧ spent.ports.frameMatch ≠ .awaiting) := by
  refine ⟨⟨⟨rfl, rfl⟩, fun h => ?_, fun h => ?_, rfl, rfl⟩, ⟨rfl, rfl⟩, fun h => ?_, by decide⟩
  · exact absurd h.2.2.1 (by decide)
  · have := h.2.2.2.2; simp [locked, regenerate, blank] at this
  · exact absurd h.2.2.2.1 (by decide)

/-- A queue of two answers, and source 5 and source 6 reportable. -/
def answering : State :=
  { locked with
    mgmt := { locked.mgmt with queue := [.ready (command 0 1 zeroPayload), .ready (command 0 2 zeroPayload)] }
    alerts := { locked.alerts with pending := 0x60 } }

/-- R7: a return cut behind its first response cell carries one answer and no report, and the second answer waits. -/
theorem test_cutReturn :
    let t := after (exec (.returnFrame (regenerate frame7) (.cut 1 false)) answering)
    t.mgmt.queue = [.ready (command 0 2 zeroPayload)] ∧
      (t.ports.retOut.map fun f => (f.responses[0], f.alert)) = some (command 0 1 zeroPayload, 0) := by
  simp only []
  rw [exec_returnFrame_cut _ _ _ _ (matching frame7 answering rfl rfl rfl rfl)]
  decide +kernel

/-- Statement MatchingReturnsAnswerAndReport: no report; a report against a free field, one of its own priority and one below. -/
theorem test_witness_matchingReturns :
    (∀ f : Frame, f.number = 7 → f.used = 64 → Matching (regenerate f) answering) ∧ PortsLawful answering ∧ QueueLawful answering ∧
    (∀ n, reportsInBand { locked.alerts with pending := 0 } n = false) ∧
    (answering.alerts.pending.getLsbD 5 = true ∧ answering.alerts.map[(5 : Fin 16)].masked = false ∧
      answering.alerts.map[(5 : Fin 16)].route = .inBand ∧ ∀ k : Fin 16, k < 5 → answering.alerts.pending.getLsbD k = false) ∧
    ((0x8500 : Word).getLsbD 15 = true ∧ ((0x8500 : Word).extractLsb' 8 4).toNat ≤ 5) ∧
    (0x0100 : Word).getLsbD 15 = false ∧ 5 < ((0x8600 : Word).extractLsb' 8 4).toNat := by
  refine ⟨fun f hn hu => matching f _ hn hu rfl rfl, lawful_locked, ⟨by decide, ?_⟩, by decide, by decide, by decide, by decide,
    by decide⟩
  intro e he
  simp [answering] at he
  rcases he with rfl | rfl <;> simp

/-- A state with slot 3 in a runtime record. -/
def slotIs (r : SlotRecord) : State := { locked with slots := { locked.slots with records := locked.slots.records.set 3 r } }

/-- Statement SlotsAreEvaluated: each row of the table, the count at 2 and at 1. -/
theorem test_witness_slots :
    (∀ f r, f.number = 7 → f.used = 64 → Matching (regenerate f) (slotIs r)) ∧
    ¬ Present (regenerate frame7) locked.slots.map 3 ∧
    Present (regenerate (withCell frame7 3 (sample 0))) locked.slots.map 3 ∧
    (∀ r, (slotIs r).slots.records[(3 : Fin 64)] = r) ∧ 1 < 2 := by
  refine ⟨fun f r hn hu => matching f _ hn hu rfl rfl, ?_, ?_, fun r => by simp [slotIs], by decide⟩
  · rw [present_iff]; decide +kernel
  · rw [present_iff]; decide +kernel

/-- A shock hold with slot 3 attached and a hold-off count. -/
def hold (n : Nat) : State :=
  { slotIs { state := .attached, settle := 0 } with
    limit := { locked.limit with mode := .shockHold, saved := some .freeze, holdOff := n
                                 params := { Limits.defaults with shockQuorum := 1 } } }

/-- Statement EntriesAreGiven: an exit of the hold, a detach, a sample, a hole. -/
theorem test_witness_entries :
    (∀ f n, f.number = 7 → f.used = 64 → Matching (regenerate f) (hold n)) ∧
    ((returned frame7 (hold 1)).limit.mode = .freeze ∧ (returned frame7 (hold 1)).slots.records[3].state = .detached) ∧
    ((returned (withCell frame7 3 (sample 9)) (hold 2)).limit.mode = .shockHold ∧
      (returned (withCell frame7 3 (sample 9)) (hold 2)).slots.records[3].state = .attached ∧
      (returned (withCell frame7 3 (sample 9)) (hold 2)).intake.history[3][0] = some 9) ∧
    (returned (withCell frame7 3 { cell0 with flags := 1 }) (hold 2)).intake.history[3][0] = none := by
  refine ⟨fun f n hn hu => matching f _ hn hu rfl rfl, ?_, ?_, ?_⟩
  · rw [returned_eq frame7 (hold 1) rfl rfl rfl rfl]; decide +kernel
  · rw [returned_eq _ (hold 2) rfl rfl rfl rfl]; decide +kernel
  · rw [returned_eq _ (hold 2) rfl rfl rfl rfl]; decide +kernel

/-- A mode with a request, a quorum of 1 and slot 3 attached. -/
def inMode (m : ChosenMode) : State :=
  { hold 0 with limit := { (hold 0).limit with mode := m.operating, saved := none, request := some .run } }

/-- Statement ResultingModeIsFormed: each row of the table, with a shock count of 0 and of 1 against a quorum of 1. -/
theorem test_witness_resultingMode :
    (∀ f s, f.number = 7 → f.used = 64 → s = inMode .off ∨ s = hold 1 ∨ s = hold 2 → Matching (regenerate f) s) ∧
    (let t := returned frame7 (inMode .off)
     shocksOf (regenerate frame7) t.slots 20000 = 0 ∧ t.limit.mode = .run ∧ t.limit.request = none) ∧
    (let f := withCell frame7 3 (sample (-20000))
     let t := returned f (inMode .off)
     shocksOf (regenerate f) t.slots 20000 = 1 ∧ t.limit.mode = .shockHold ∧ t.limit.saved = some .run ∧ t.limit.holdOff = 512) ∧
    (let t := returned (withCell frame7 3 (sample 20000)) (hold 1)
     t.limit.mode = .shockHold ∧ t.limit.holdOff = 512) ∧
    (let t := returned frame7 (hold 2)
     t.limit.mode = .shockHold ∧ t.limit.holdOff = 1) ∧
    (let t := returned frame7 (hold 1)
     t.limit.mode = .freeze ∧ t.limit.holdOff = 0) := by
  refine ⟨?_, ?_, ?_, ?_, ?_, ?_⟩
  · rintro f s hn hu (rfl | rfl | rfl) <;> exact matching f _ hn hu rfl rfl
  · simp only []; rw [returned_eq frame7 (inMode .off) rfl rfl rfl rfl]; decide +kernel
  · simp only []; rw [returned_eq _ (inMode .off) rfl rfl rfl rfl]; decide +kernel
  · simp only []; rw [returned_eq _ (hold 1) rfl rfl rfl rfl]; decide +kernel
  · simp only []; rw [returned_eq _ (hold 2) rfl rfl rfl rfl]; decide +kernel
  · simp only []; rw [returned_eq _ (hold 1) rfl rfl rfl rfl]; decide +kernel

/-- A pass of frame 6 at a target. -/
def passing (t : Slot) : Pass := { frame := 6, next := t, saturationSeen := false, work := TargetWork.start }

/-- RUN with the pass of frame 6 at target 41. -/
def overrunning : State :=
  { locked with limit := { locked.limit with mode := .run }, coupling := { locked.coupling with pass := some (passing 41) } }

/-- Statement PassStartsAtTheBoundary: a pass overrun into RUN, and a boundary in OFF with the swap not due. -/
theorem test_witness_passStarts :
    (Matching (regenerate frame7) overrunning ∧ overrunning.coupling.pass.isSome = true ∧
      (returned frame7 overrunning).limit.mode = .run ∧ (returned frame7 overrunning).counters[4] = 1) ∧
    Matching (regenerate frame7) locked ∧ locked.banks.engine ≠ .swapPending ∧ (returned frame7 locked).limit.mode = .off := by
  refine ⟨⟨matching _ _ rfl rfl rfl rfl, rfl, ?_⟩, matching _ _ rfl rfl rfl rfl, by decide, ?_⟩
  · rw [returned_eq _ overrunning rfl rfl rfl rfl]; decide +kernel
  · rw [returned_eq _ locked rfl rfl rfl rfl]; decide +kernel

/-- Statement PoolAtTheBoundary: OFF, and FREEZE with a notice at an attach. -/
theorem test_witness_pool :
    Matching (regenerate frame7) locked ∧ (returned frame7 locked).limit.mode = .off ∧
    (let f := withCell frame7 3 { cell0 with flags := 13, notice := 0x22 }
     Matching (regenerate f) seeking ∧ (returned f seeking).limit.mode = .freeze ∧ isPresent f.cells[3] = true ∧
       hasNotice f.cells[3] = true ∧ (returned f seeking).slots.records[3].state ≠ .detached) := by
  refine ⟨matching _ _ rfl rfl rfl rfl, ?_, matching _ _ rfl rfl rfl rfl, ?_⟩
  · rw [returned_eq _ locked rfl rfl rfl rfl]; decide +kernel
  · rw [returned_eq _ seeking rfl rfl rfl rfl]; decide +kernel

/-- A full pool of the slots 0 to 23. -/
def fullPool : List Pulse := (List.range 24).map fun k =>
  { source := Fin.ofNat 64 k, lengthClass := 0, direction := .inward, onset := 4000, position := 4, play := .playing }

/-- Statement NoticesAreDecided: a repeat, a supersession, an insertion into 23, a drop at 24. -/
theorem test_witness_notices :
    (fullPool.map (·.source)).Nodup ∧ fullPool.length = 24 ∧ ((fullPool.drop 1).map (·.source)).Nodup ∧
    (fullPool.drop 1).length < 24 ∧ (∀ q, q ∈ fullPool → q.source ≠ 24) ∧ (∀ q, q ∈ fullPool.drop 1 → q.source ≠ 0) ∧
    (let n : Notice := { slot := 5, lengthClass := 1, direction := .outward, lead := 15 }
     (∃ q, q ∈ fullPool ∧ q.source = n.slot ∧ q.onset = 3985 + n.lead.setWidth 16) ∧
       (∃ q, q ∈ fullPool ∧ q.source = n.slot ∧ q.onset ≠ 3986 + n.lead.setWidth 16)) := by decide +kernel

theorem fullPool_evaluated : EvaluatedTogether fullPool := ⟨4003, by decide +kernel⟩

/-- Statement PulsesKeepOrderAndIndex: an ordered pool without the source, evaluated for one frame, and the frame that retires it; d at
31, 32, 65,521 and 65,522. -/
theorem test_witness_order :
    (fullPool.Pairwise fun a b => b.position < a.position ∨ (a.position = b.position ∧ a.source < b.source)) ∧
    (∀ q, q ∈ fullPool → q.source ≠ 24) ∧ EvaluatedTogether fullPool ∧ (retirePulses 4030 fullPool).length = 24 ∧
    retirePulses 4031 fullPool = [] ∧
    (30 + 1 - 0 : Word).toNat ≤ 31 ∧ 32 ≤ (31 + 1 - 0 : Word).toNat ∧ (65520 + 1 - 0 : Word).toNat ≤ 65521 ∧
    65522 ≤ (65521 + 1 - 0 : Word).toNat :=
  ⟨by decide +kernel, by decide +kernel, fullPool_evaluated, by decide +kernel, by decide +kernel, by decide, by decide, by decide,
    by decide⟩

/-- Statement BankEngineAtTheBoundary: each state; rows 0 and 60 that pass, row 17 that fails in group 16; items 0 and 192. -/
theorem test_witness_bankEngine :
    (∀ e r, Matching (regenerate frame7) (engineIn e r)) ∧ locked.banks.engine = .idle ∧
    (∀ u : Slot, u.val < 4 ∨ 60 ≤ u.val → rowFault 64 (standbyBank (engineIn .validating 60).banks) u = none) ∧
    (rowFault 64 (bank8 25904) 17 = some .unstable ∧ rowFault 64 (bank8 25904) 16 = none ∧
      standbyBank { (engineIn .validating 16).banks with bankB := bank8 25904 } = bank8 25904) ∧
    0 + 8 < 200 ∧ 200 ≤ 192 + 8 :=
  ⟨fun _ _ => matching _ _ rfl rfl rfl rfl, rfl, by decide +kernel, ⟨by decide +kernel, by decide +kernel, rfl⟩, by decide, by decide⟩

/-- A bank with the row of 08 section 8.8 and one entry more. -/
def badRow (e : Entry) : Bank :=
  { bank8 25904 with rows := (bank8 25904).rows.set 17 ((bank8 25904).rows[17].set 2 (some e)) }

/-- Statement RowChecks: the four outcomes, and a load equal to the bound. -/
theorem test_witness_rowChecks :
    rowFault 64 (badRow { source := 17, kernel := 9, gain := 0, delay := 0, pulseGain := none }) 17 = some .undefinedKernel ∧
    rowFault 64 (badRow { source := 17, kernel := 3, gain := 0, delay := 0, pulseGain := none }) 17 = some .badEntry ∧
    rowFault 64 (badRow { source := 16, kernel := 3, gain := 0, delay := 0, pulseGain := none }) 17 = some .badEntry ∧
    rowFault 64 (bank8 25904) 17 = some .unstable ∧ rowFault 64 (bank8 15904) 17 = none ∧
    (let b : Bank := { Bank.cleared with
      rows := Bank.cleared.rows.set 0 (Vector.replicate 8 none |>.set 0 (some { source := 1, kernel := 0, gain := -32768, delay := 0, pulseGain := none }))
      kernels := Bank.cleared.kernels.set 0 { taps := Vector.replicate 16 0 |>.set 0 512, defined := true } }
     rowLoad b b.rows[0] = 1 * 2 ^ 24 ∧ rowFault 1 b 0 = none) := by decide +kernel

/-- Statement LeasesAndTimeCountAdvance: a lease at 32,766 and at 32,767, a time count at 19,998 and at 19,999. -/
theorem test_witness_leases :
    (∀ l n, Matching (regenerate frame7) { lasting with
      mgmt := { lasting.mgmt with locks := { lasting.mgmt.locks with config := some { holder with lease := l } } }
      profile := { lasting.profile with running := some { snapshot := takeSnapshot locked, count := n } } }) ∧
    lockOf lasting.mgmt.locks .standby = none ∧ lockOf lasting.mgmt.locks .config = some { holder with lease := 32767 } ∧
    32766 + 1 < 32768 ∧ 32768 ≤ 32767 + 1 ∧ 19998 + 1 < 20000 ∧ 20000 ≤ 19999 + 1 ∧ locked.profile.running = none ∧
    (returned frame7 lasting).mgmt.locks.config = none := by
  refine ⟨fun _ _ => matching _ _ rfl rfl rfl rfl, rfl, rfl, by decide, by decide, by decide, by decide, rfl, ?_⟩
  rw [returned_eq _ lasting rfl rfl rfl rfl]; decide +kernel

/-- A capture of slot 2 in a state, with an item to go, and the pool of a seek of slot 5. -/
def capturing (c : CaptureState) (m : OperatingMode) (trigger : Trigger) : State :=
  { hold 0 with
    limit := { (hold 0).limit with mode := m, saved := none }
    pool := if m = .run ∨ m = .freeze then seeking.pool else []
    capture := { Capture.initial with
      state := c, channels := #v[some 2, none, none, none], trigger := trigger, preTrigger := 192
      rows := List.replicate (if c = .filling then 63 else 0) { frame := 5, items := Vector.replicate 4 none }
      remaining := if c = .filling then 1 else 0 } }

/-- The same with a pass of frame 6 at a target and its items in progress. -/
def overrunCapture (c : CaptureState) (t : Slot) : State :=
  let s := capturing c .run (.seek 3)
  { s with
    coupling := { s.coupling with pass := some (passing t) }
    capture := { s.capture with begun := some { frame := 6, entries := Vector.replicate 4 none } } }

/-- Statement CaptureRecordsAndCompletes, the boundary: ARMED without a trigger, into OFF and into RUN; a SEEK of a new notice and of a
repeat; a shock entry; FILLING into OFF and into RUN; an overrun of an ARMED capture and of a FILLING one. -/
theorem test_witness_capture :
    (∀ c m x, ∀ f : Frame, f.number = 7 → f.used = 64 → Matching (regenerate f) (capturing c m x)) ∧
    ((returned frame7 (capturing .armed .off .shock)).capture.rows.length = 1 ∧
      (returned frame7 (capturing .armed .off .shock)).capture.state = .armed) ∧
    (returned frame7 (capturing .armed .run .shock)).capture.begun.isSome = true ∧
    (let f := withCell frame7 3 { cell0 with flags := 13, notice := 0x22 }
     (returned f (capturing .armed .run (.seek 3))).capture.remaining = 64) ∧
    (let f := withCell frame7 5 { cell0 with flags := 5, notice := 0x11 }
     let s := capturing .armed .freeze (.seek 5)
     (returned f { s with pool := [{ source := 5, lengthClass := 1, direction := .inward, onset := 8, position := 0, play := .playing }] }).capture.state =
       .armed) ∧
    (returned (withCell frame7 3 (sample 20000)) (capturing .armed .off .shock)).capture.remaining = 63 ∧
    (returned frame7 (capturing .filling .off .shock)).capture.state = .done ∧
    (returned frame7 (capturing .filling .run .shock)).capture.begun.isSome = true ∧
    ((returned frame7 (overrunCapture .armed 41)).capture.rows.length = 1 ∧
      (returned frame7 (overrunCapture .filling 41)).capture.state = .done) := by
  refine ⟨fun c m x f hn hu => matching f _ hn hu rfl rfl, ⟨?_, ?_⟩, ?_, ?_, ?_, ?_, ?_, ?_, ?_, ?_⟩ <;> (try simp only []) <;>
    (rw [returned_eq]
     · decide +kernel
     all_goals rfl)

/-- The same statement: its invariants hold in these states, and the completions at target 63 and of the last item. -/
theorem test_witness_captureLawful :
    (∀ c, c = .armed ∨ c = .filling → CaptureLawful (capturing c .run (.seek 3)) ∧ CaptureLawful (overrunCapture c 41)) ∧
    (∀ c t, PoolLawful (capturing c .run (.seek 3)) ∧ PoolLawful (overrunCapture c t)) ∧
    (∀ c, (overrunCapture c 41).coupling.pass = some (passing 41) ∧ (passing 41).next ≠ 63 ∧
      (overrunCapture c 63).coupling.pass = some (passing 63) ∧ (passing 63).next = 63 ∧
      (overrunCapture c 63).capture.begun.isSome = true) ∧
    (filling.capture.state = .filling ∧ filling.capture.remaining = 1 ∧ filling.capture.begun.isSome = true) := by
  have hp : ∀ s : State, s.pool = seeking.pool → s.limit.mode = .run → s.ports.lock = .locked → PoolLawful s := by
    intro s h hm hl
    refine ⟨by rw [h]; decide, by rw [h]; decide, by rw [h]; exact ⟨5, by decide +kernel⟩, by rw [h]; simp [seeking], ?_⟩
    rw [hm, hl]
    rintro (h | h | h) <;> exact nomatch h
  refine ⟨?_, fun c t => ⟨hp _ rfl rfl rfl, hp _ rfl rfl rfl⟩, fun c => ⟨rfl, by decide, rfl, rfl, rfl⟩, rfl, rfl, rfl⟩
  rintro c (rfl | rfl) <;> refine ⟨⟨by decide, by decide, by decide, ?_⟩, ⟨by decide, by decide, by decide, ?_⟩⟩ <;>
    simp [capturing, overrunCapture, Capture.initial, Config.captureLength]

/-- The swap pending with a pass in progress and its items. -/
def swapping : State := { overrunCapture .filling 41 with banks := (engineIn .swapPending 0).banks }

/-- Statements SpansEnd and SwapAndCopyEnd. -/
theorem test_witness_spans :
    OnLoop (slotIs { state := .settling, settle := 1 }) ∧
    (slotIs { state := .settling, settle := 1 }).slots.records[(3 : Fin 64)] = { state := .settling, settle := 1 } ∧
    OnLoop lasting ∧ lockOf lasting.mgmt.locks .config = some { holder with lease := 32767 } ∧
    lasting.profile.running = some { snapshot := takeSnapshot locked, count := 19999 } ∧
    OnLoop (hold 1) ∧ (hold 1).limit.mode = .shockHold ∧ (hold 1).limit.holdOff = 1 ∧ (hold 1).limit.saved = some .freeze ∧
    OnLoop (engineIn .swapPending 0) ∧ (engineIn .swapPending 0).banks.engine = .swapPending ∧
    (engineIn .swapPending 0).coupling.pass = none ∧
    (OnLoop swapping ∧ swapping.banks.engine = .swapPending ∧ swapping.coupling.pass.isSome = true ∧
      swapping.capture.begun.isSome = true ∧ (after (exec .bankSwap swapping)).capture.state = .done) ∧
    OnLoop (engineIn .resync 192) ∧ (engineIn .resync 192).banks.engine = .resync ∧ (engineIn .resync 192).banks.progress = 192 :=
  ⟨⟨rfl, rfl⟩, by decide +kernel, ⟨rfl, rfl⟩, rfl, rfl, ⟨rfl, rfl⟩, rfl, rfl, rfl, ⟨rfl, rfl⟩, rfl, rfl,
    ⟨⟨rfl, rfl⟩, rfl, rfl, rfl, by decide +kernel⟩, ⟨rfl, rfl⟩, rfl, rfl⟩

/-- A pass at target t whose work has come to v, with a limit record. -/
def worked (t : Slot) (v : Int) (r : LimitRecord) : State :=
  { locked with
    limit := { locked.limit with mode := .run, records := locked.limit.records.set t r, params := { Limits.defaults with recoveryPeriod := 256 } }
    coupling := { locked.coupling with
      pass := some { frame := 6, next := t, saturationSeen := false, work := { position := 8, sum := 0, derated := some v } } } }

/-- Statement TargetCompletes: target 62, target 63, and a value on each side of the clamp. -/
theorem test_witness_target :
    (worked 62 32768 LimitRecord.initial).coupling.pass.isSome = true ∧ (62 : Slot).val + 1 = (63 : Slot).val ∧
    deratedValue (worked 63 32768 LimitRecord.initial) 6 63 { position := 8, sum := 0, derated := some 32768 } = 32768 ∧
    deratedValue (worked 63 (-32768) LimitRecord.initial) 6 63 { position := 8, sum := 0, derated := some (-32768) } = -32768 ∧
    (after (exec .targetCompletion (worked 63 32768 LimitRecord.initial))).coupling.pass = none ∧
    (after (exec .targetCompletion (worked 63 32768 LimitRecord.initial))).counters[8] = 1 := by decide +kernel

/-- Statement SaturationLadder: each row, at the threshold and below it, at the period and below it. -/
theorem test_witness_ladder :
    let level := fun (v : Int) (r : LimitRecord) => (after (exec .targetCompletion (worked 63 v r))).limit.records[63]
    level 40000 { level := .muted, saturation := 0, recovery := 0 } = { level := .muted, saturation := 0, recovery := 0 } ∧
    level 40000 { level := .level1, saturation := 59, recovery := 7 } = { level := .level1, saturation := 63, recovery := 0 } ∧
    level 40000 { level := .normal, saturation := 60, recovery := 0 } = { level := .level1, saturation := 0, recovery := 0 } ∧
    level 40000 { level := .level1, saturation := 60, recovery := 7 } = { level := .level2, saturation := 0, recovery := 0 } ∧
    level 40000 { level := .level2, saturation := 60, recovery := 7 } = { level := .muted, saturation := 0, recovery := 0 } ∧
    level 7 { level := .normal, saturation := 0, recovery := 0 } = { level := .normal, saturation := 0, recovery := 0 } ∧
    level 7 { level := .level2, saturation := 5, recovery := 254 } = { level := .level2, saturation := 4, recovery := 255 } ∧
    level 7 { level := .level1, saturation := 5, recovery := 255 } = { level := .normal, saturation := 4, recovery := 0 } ∧
    level 7 { level := .level2, saturation := 5, recovery := 255 } = { level := .level1, saturation := 4, recovery := 0 } := by
  decide +kernel

/-- R120, R121: a step down raises TARGET_DERATED or TARGET_MUTED, a step up nothing. -/
theorem test_ladderAlerts :
    let raised := fun (v : Int) (r : LimitRecord) => (after (exec .targetCompletion (worked 63 v r))).alerts.pending ^^^ 0x4001
    raised 40000 { level := .normal, saturation := 60, recovery := 0 } = 1 <<< 9 ∧
    raised 40000 { level := .level2, saturation := 60, recovery := 7 } = 1 <<< 3 ∧
    raised 7 { level := .level2, saturation := 5, recovery := 255 } = 0 ∧
    raised 40000 { level := .level1, saturation := 59, recovery := 7 } = 0 := by decide +kernel

/-- Statement DeratedValueOfATarget, partial work: the first and the last position, the piece behind them, and work that is done. -/
theorem test_witness_pieces :
    let piece := fun w => advanceWork pass5 3000 20 w
    piece TargetWork.start = { position := 1, sum := 3276800, derated := none } ∧
    piece { position := 7, sum := 5, derated := none } = { position := 8, sum := 5, derated := none } ∧
    piece { position := 8, sum := 16384, derated := none } = { position := 8, sum := 16384, derated := some 1 } ∧
    piece { position := 8, sum := 16384, derated := some 9 } = { position := 8, sum := 16384, derated := some 9 } ∧
    deratedValue pass5 3000 20 (piece TargetWork.start) = -260 := by decide +kernel

/-- Statement DeratedValueOfATarget: a stale source and one that is not; the pool of the example, at play indices 0, 31 and 32, and an
entry of another source. -/
theorem test_witness_pulseTerm :
    ((∀ a : Fin 32, a.val < 4 → pass5.intake.history[(5 : Slot)][a] = none) ∧
      ¬ ∀ a : Fin 32, a.val < 4 → pass5.intake.history[(30 : Slot)][a] = none) ∧
    (pass5.pool.map (·.source)).Nodup ∧ (∀ q, q ∈ pass5.pool → q.source ≠ 21) ∧
    (∃ q, q ∈ pass5.pool ∧ q.source = 30 ∧ (3000 + 1 - q.onset : Word).toNat = 0 ∧ (3031 + 1 - q.onset : Word).toNat = 31 ∧
      32 ≤ (3032 + 1 - q.onset : Word).toNat) ∧
    (∃ e : Entry, pass5Bank.rows[20][3] = some e ∧ e.pulseGain = some 16384 ∧ e.source = 30 ∧ pulseTerm pass5 3000 e = -6553600) := by
  decide +kernel

/-- Statement HistoryReadByFrameNumber: ages 0, 31 and 32, and a frame after the head. -/
theorem test_witness_history :
    ((500 - 500 : Word).toNat = 0 ∧ (500 - 469 : Word).toNat = 31 ∧ 32 ≤ (500 - 468 : Word).toNat ∧ 32 ≤ (500 - 501 : Word).toNat) := by
  decide

/-! Witnesses of the command statements. Every state below is on the loop with a free queue, so every request is taken. -/

/-- The owner's state with other banks, profile or limit monitor. -/
def busy : State := { owner with banks := { owner.banks with engine := .resync, operation := some .resync } }
def storing : State := { owner with profile := persisting.profile }
def torn : State := { owner with banks := { owner.banks with standbyCondition := .torn } }
def shaken : State := { owner with limit := (hold 1).limit }

theorem test_witness_taken (p : Vector Byte 8) :
    (∀ t : Tag, Taken (req t p) locked (renewLeases (req t p) locked)) ∧ (∀ t : Tag, Taken (req t p) owner (renewLeases (req t p) owner)) ∧
    (∀ t : Tag, Taken (req t p) busy (renewLeases (req t p) busy)) ∧ (∀ t : Tag, Taken (req t p) storing (renewLeases (req t p) storing)) ∧
    (∀ t : Tag, Taken (req t p) torn (renewLeases (req t p) torn)) ∧ (∀ t : Tag, Taken (req t p) shaken (renewLeases (req t p) shaken)) ∧
    (∀ (t : Tag) x n m, Taken (req t p) (opened x n m) (renewLeases (req t p) (opened x n m))) :=
  ⟨fun _ => taken _ _ rfl rfl, fun _ => taken _ _ rfl rfl, fun _ => taken _ _ rfl rfl, fun _ => taken _ _ rfl rfl,
    fun _ => taken _ _ rfl rfl, fun _ => taken _ _ rfl rfl, fun _ _ _ _ => taken _ _ rfl rfl⟩

/-- Statement TakenCommandsAreAnsweredAndRenew: a holder, another, and codes that name no command. -/
theorem test_witness_renew (p : Vector Byte 8) (d : Domain) :
    Holds (req 21 p) d owner ∧ ¬ Holds (req 22 p) d owner ∧ (Instr.unknownCommand 0 (req 21 p)).wellFormed = true ∧
    (Instr.unknownCommand 255 (req 21 p)).wellFormed = true :=
  ⟨holds21 _ _ _ rfl, holds22 _ _ _ rfl, rfl, rfl⟩

/-- Statement StatusReports: without a rejection record, and with one of row 17. -/
theorem test_witness_status (p : Vector Byte 8) :
    Taken (req 5 p) locked (renewLeases (req 5 p) locked) ∧ locked.banks.rejection = none ∧
    (∃ s : State, Taken (req 5 p) s (renewLeases (req 5 p) s) ∧ s.banks.rejection = some { row := 17, reason := .unstable } ∧
      rejectionByte s.banks.rejection = 0xD1) :=
  ⟨taken _ _ rfl rfl, rfl,
    { locked with banks := { locked.banks with rejection := some { row := 17, reason := .unstable } } }, taken _ _ rfl rfl, rfl, rfl⟩

/-- Statement ClaimAndReleaseAreDecided: codes 3 and 4, a tag of 0, a FREE domain, its holder, another tag. -/
theorem test_witness_claim :
    (4 ≤ (4 : Byte).toNat ∧ domainOfCode 3 = some .profile ∧ (req 0 zeroPayload).tag = 0 ∧ (req 21 zeroPayload).tag ≠ 0) ∧
    lockOf locked.mgmt.locks .profile = none ∧
    (lockOf owner.mgmt.locks .profile = some holder ∧ holder.manager = (req 21 zeroPayload).manager ∧
      holder.tag = (req 21 zeroPayload).tag) ∧
    ¬ (holder.manager = (req 22 zeroPayload).manager ∧ holder.tag = (req 22 zeroPayload).tag) ∧
    Holds (req 21 zeroPayload) .profile owner ∧ ¬ Holds (req 22 zeroPayload) .profile owner :=
  ⟨by decide, rfl, ⟨rfl, rfl, rfl⟩, by decide, holds21 _ _ _ rfl, holds22 _ _ _ rfl⟩

/-- Statement SelectIsDecided: table codes 13 and 14, starts 1,023 and 1,024, a mode refused and one admitted. -/
theorem test_witness_select :
    13 < (14 : Byte).toNat ∧ (13 : Byte) = tableCode .capture ∧ itemCount .capture ≤ (0x0400 : Word).toNat ∧
    (0x03FF : Word).toNat < itemCount .capture ∧ (∀ m, (1 : Byte) = modeCode m → admitsMode .capture m = false) ∧
    (∀ m, (5 : Byte) = modeCode m → admitsMode .capture m = false) ∧
    ((0 : Byte) = modeCode .plain ∧ admitsMode .capture .plain = true) := by
  refine ⟨by decide, by decide, by decide, by decide, ?_, ?_, by decide⟩ <;> (intro m; cases m <;> decide)

/-- Statements BankCommandsAreDecided, ModeIsDecided and PersistIsDecidedAndEnds. -/
theorem test_witness_bankCommands (p : Vector Byte 8) :
    (∀ d, ¬ Holds (req 22 p) d owner) ∧
    (∀ s d, s = owner ∨ s = busy ∨ s = storing ∨ s = torn ∨ s = shaken → Holds (req 21 p) d s) ∧
    (busy.banks.engine ≠ .idle ∧ storing.banks.engine = .idle ∧ storing.profile.running.isSome = true) ∧
    (torn.banks.engine = .idle ∧ torn.profile.running = none ∧ torn.banks.standbyCondition = .torn) ∧
    (owner.banks.engine = .idle ∧ owner.profile.running = none ∧ owner.banks.standbyCondition = .clean) ∧
    (2 < (3 : Byte).toNat ∧ (2 : Byte).toNat ≤ 2 ∧ owner.limit.mode ≠ .shockHold ∧ shaken.limit.mode = .shockHold) ∧
    persisting.profile.running.isSome = true := by
  refine ⟨fun d => holds22 _ _ _ rfl, ?_, ⟨by decide, rfl, rfl⟩, ⟨rfl, rfl, rfl⟩, ⟨rfl, rfl, rfl⟩,
    ⟨by decide, by decide, by decide, rfl⟩, rfl⟩
  rintro s d (rfl | rfl | rfl | rfl | rfl) <;> exact holds21 _ _ _ rfl

/-- Statement ArmCaptureIsDecided: each check at and past its bound, and the three triggers. -/
theorem test_witness_armCapture :
    (∀ p, ¬ Holds (req 22 p) .capture owner) ∧ (∀ p, Holds (req 21 p) .capture owner) ∧
    (captureArguments #v[0x3F, 0, 0, 0, 0, 0, 0, 0] = none ∧ captureArguments #v[0xC0, 0, 0, 0, 0, 0, 0, 0] = none ∧
      captureArguments #v[0xBF, 0, 0, 0, 3, 0, 0, 0] = none ∧ captureArguments #v[0xBF, 0, 0, 0, 1, 64, 0, 0] = none ∧
      captureArguments #v[0xBF, 0, 0, 0, 2, 64, 193, 0] = none) ∧
    ((captureArguments #v[0xBF, 0x40, 0, 0x80, 0, 64, 192, 0]).map (·.trigger) = some .immediate ∧
      (captureArguments #v[0xBF, 0, 0, 0, 1, 63, 0, 0]).map (·.trigger) = some (.seek 63) ∧
      (captureArguments #v[0xBF, 0, 0, 0, 2, 64, 0, 0]).map (·.trigger) = some .shock) :=
  ⟨fun _ => holds22 _ _ _ rfl, fun _ => holds21 _ _ _ rfl, by decide +kernel, by decide +kernel⟩

/-- Statement DataIsRefusedInOrder: no context, a read-only table, no lock, a busy engine. -/
theorem test_witness_data (p : Vector Byte 8) :
    (contextOf (req 21 p) owner).state ≠ .opened ∧ OpenAt (req 21 p) (opened .pulses 23 .plain) .pulses 23 .plain ∧
    tableDomain .pulses = none ∧
    (tableDomain .standbyCt = some .standby ∧ ¬ Holds (req 22 p) .standby (opened .standbyCt 511 .add) ∧
      OpenAt (req 22 p) (opened .standbyCt 511 .add) .standbyCt 511 .add) ∧
    (∃ s : State, s.mgmt = (opened .standbyCt 511 .add).mgmt ∧ OpenAt (req 21 p) s .standbyCt 511 .add ∧ Holds (req 21 p) .standby s ∧
      s.banks.engine ≠ .idle) ∧
    (tableDomain .limits = some .config ∧ ¬ Holds (req 22 p) .config (opened .limits 5 .replace)) :=
  ⟨by simp [contextOf, req, owner, locked, State.reset, Management.initial, LoadContext.initial], rfl, rfl,
    ⟨rfl, holds22 _ _ _ rfl, rfl⟩, ⟨{ busy with mgmt := (opened .standbyCt 511 .add).mgmt }, rfl, rfl, holds21 _ _ _ rfl, by decide⟩,
    rfl, holds22 _ _ _ rfl⟩

/-- The owner's state with an item of STANDBY_CT open on row 17 of the bank of 08 section 8.8. -/
def retuning (n : Nat) (m : ContextMode) : State :=
  { opened .standbyCt n m with banks := { owner.banks with bankB := bank8 25904 } }

/-- Statement EntriesAreReplacedAndAdjusted: positions 0 and 7; each refusal; an entry in place; an ADD with and without an entry. -/
theorem test_witness_entries_written (p : Vector Byte 8) :
    (OpenAt (req 21 p) (retuning 136 .replace) .standbyCt (8 * (17 : Slot).val + (0 : Fin 8).val) .replace ∧
      OpenAt (req 21 p) (retuning 143 .replace) .standbyCt (8 * (17 : Slot).val + (7 : Fin 8).val) .replace ∧
      Holds (req 21 p) .standby (retuning 143 .replace) ∧ (retuning 143 .replace).banks.engine = .idle) ∧
    ((0 : Byte).getLsbD 0 = false ∧ (3 : Byte).getLsbD 0 = true) ∧
    (¬ ((64 : Byte).toNat < 64) ∧ ¬ ((128 : Byte).toNat < 128) ∧ ¬ ((16 : Byte).toNat < 16)) ∧
    ((63 : Byte).toNat < 64 ∧ (127 : Byte).toNat < 128 ∧ (15 : Byte).toNat < 16) ∧
    (∃ e, (standbyBank (retuning 143 .replace).banks).rows[(17 : Slot)][(1 : Fin 8)] = some e ∧ e.source = 18) ∧
    ((standbyBank (retuning 143 .add).banks).rows[(17 : Slot)][(7 : Fin 8)].isSome = true ∧
      (standbyBank (retuning 136 .add).banks).rows[(17 : Slot)][(0 : Fin 8)] = none) :=
  ⟨⟨rfl, rfl, holds21 _ _ _ rfl, rfl⟩, by decide, by decide, by decide, by decide +kernel, by decide +kernel⟩

/-- Statement TapsAndSamplesAreWritten: the first and the last item of each table. -/
theorem test_witness_taps (p : Vector Byte 8) (m : ContextMode) :
    OpenAt (req 21 p) (opened .standbyKernel 0 m) .standbyKernel (4 * (0 : Fin 128).val + (0 : Fin 4).val) m ∧
    OpenAt (req 21 p) (opened .standbyKernel 511 m) .standbyKernel (4 * (127 : Fin 128).val + (3 : Fin 4).val) m ∧
    OpenAt (req 21 p) (opened .standbyTemplate 0 m) .standbyTemplate (8 * (0 : Fin 8).val + (0 : Fin 8).val) m ∧
    OpenAt (req 21 p) (opened .standbyTemplate 63 m) .standbyTemplate (8 * (7 : Fin 8).val + (7 : Fin 8).val) m ∧
    Holds (req 21 p) .standby (opened .standbyTemplate 63 m) ∧ (opened .standbyTemplate 63 m).banks.engine = .idle :=
  ⟨rfl, rfl, rfl, rfl, holds21 _ _ _ rfl, rfl⟩

/-- Statement SlotIsRemapped: slot 63 unmapped and mapped; cell values 63, 64, 254 and 255; a free cell and a taken one. -/
theorem test_witness_slotmap (p : Vector Byte 8) :
    OpenAt (req 21 p) unmapped .slotmap (63 : Slot).val .replace ∧ Holds (req 21 p) .config unmapped ∧
    (64 ≤ (64 : Byte).toNat ∧ (64 : Byte).toNat ≠ 255 ∧ 64 ≤ (254 : Byte).toNat ∧ (255 : Byte).toNat = 255) ∧
    unmapped.slots.map[(63 : Slot)] = none ∧ (opened .slotmap 63 .replace).slots.map[(63 : Slot)] = some 63 ∧
    (∃ w : Slot, w ≠ 63 ∧ unmapped.slots.map[w] = some 62) ∧ (∀ w : Slot, w ≠ 63 → unmapped.slots.map[w] ≠ some 63) :=
  ⟨rfl, holds21 _ _ _ rfl, by decide, by decide +kernel, by decide +kernel, by decide +kernel, by decide +kernel⟩

/-- Statements TargetSetIsWrittenAndRead and ConfigurationIsWrittenAndRead: every mode, with the lock and without
it; item 5 of LIMITS at and past its range; the routes 2 and 3. -/
theorem test_witness_configuration (p : Vector Byte 8) (m : ContextMode) :
    (OpenAt (req 21 p) (opened .targets 0 m) .targets 0 m ∧ Holds (req 21 p) .config (opened .targets 0 m)) ∧
    (OpenAt (req 21 p) (opened .mutes 0 m) .mutes 0 m ∧ Holds (req 21 p) .config (opened .mutes 0 m)) ∧
    (OpenAt (req 21 p) (opened .limits 5 .replace) .limits (5 : Fin 6).val .replace ∧ limitInRange 5 1 = true ∧
      limitInRange 5 255 = true ∧ limitInRange 5 0 = false ∧ limitInRange 5 256 = false ∧ limitInRange 0 8 = true ∧
      limitInRange 0 7 = false) ∧
    (OpenAt (req 21 p) (opened .alertmap 15 .replace) .alertmap (15 : Fin 16).val .replace ∧
      Holds (req 21 p) .config (opened .alertmap 15 .replace) ∧ routeOfCode 2 = some .both ∧ 2 < (3 : Byte).toNat) ∧
    (∀ x n, OpenAt (req 22 p) (opened x n m) x n m ∧ ¬ Holds (req 22 p) .config (opened x n m)) :=
  ⟨⟨rfl, holds21 _ _ _ rfl⟩, ⟨rfl, holds21 _ _ _ rfl⟩, ⟨rfl, by decide, by decide, by decide, by decide, by decide, by decide⟩,
    ⟨rfl, holds21 _ _ _ rfl, rfl, by decide⟩, fun _ _ => ⟨rfl, holds22 _ _ _ rfl⟩⟩

/-- Statements TablesAreRead and CountersAndCaptureAreRead: the last item of each table, a pool shorter and longer than the item,
each capture state, a row beyond, an absent channel and a recorded one. -/
theorem test_witness_reads (p : Vector Byte 8) (m : ContextMode) :
    (contextOf (req 0 p) owner).state ≠ .opened ∧
    OpenAt (req 0 p) (opened .liveCt 511 m) .liveCt (8 * (63 : Slot).val + (7 : Fin 8).val) m ∧
    ((liveBank pass5.banks).rows[(20 : Slot)][(0 : Fin 8)].isSome = true ∧ (liveBank pass5.banks).rows[(20 : Slot)][(1 : Fin 8)] = none) ∧
    OpenAt (req 0 p) (opened .liveKernel 511 m) .liveKernel (4 * (127 : Fin 128).val + (3 : Fin 4).val) m ∧
    OpenAt (req 0 p) (opened .liveTemplate 63 m) .liveTemplate (8 * (7 : Fin 8).val + (7 : Fin 8).val) m ∧
    OpenAt (req 0 p) (opened .slotmap 63 m) .slotmap (63 : Slot).val m ∧
    OpenAt (req 0 p) (opened .pulses 23 m) .pulses (23 : Fin 24).val m ∧ fullPool[23]?.isSome = true ∧ (fullPool.drop 1).length ≤ 23 ∧
    OpenAt (req 0 p) (opened .counters 9 m) .counters (9 : Fin 10).val m ∧
    OpenAt (req 0 p) (opened .capture 1023 m) .capture (256 * (3 : Fin 4).val + (255 : Fin 256).val) m ∧
    (∃ s : State, s.mgmt = (opened .capture 0 m).mgmt ∧ s.capture.state = .done ∧ s.capture.rows.length ≤ (1 : Fin 256).val ∧
      ∃ row : CaptureRow, s.capture.rows[(0 : Fin 256).val]? = some row ∧ row.items[(1 : Fin 4)] = none ∧ row.items[(0 : Fin 4)].isSome = true) :=
  ⟨by simp [contextOf, req, owner, locked, State.reset, Management.initial, LoadContext.initial], rfl, by decide +kernel, rfl, rfl, rfl, rfl,
    by decide, by decide, rfl, rfl,
    { opened .capture 0 m with capture := { Capture.initial with
      state := .done
      rows := [{ frame := 5, items := #v[some { sample := none, last := 0, status := .off }, none, none, none] }] } },
    rfl, rfl, Nat.le_refl 1, _, rfl, rfl, rfl⟩

/-! Witnesses of resets and invariants -/

/-- A part whose store holds a GOOD profile that agrees with its CRC. -/
def stored : ProfileImage :=
  { generation := 41, bank := Bank.cleared, slotMap := identityMap, targets := 0, params := Limits.defaults, alertMap := defaultAlertMap }

def profiled : State :=
  { locked with profile :=
    { condition := .good, image := some stored, crc := crc32 (profileBytes stored), running := none, found := true } }

/-- Statement PowerUpRunsTheSequence: a BLANK store and a GOOD one, a PERSIST in progress, a part that waits, a part that loads. -/
theorem test_witness_powerUp :
    (locked.profile.running.isSome = false ∧ persisting.profile.running.isSome = true) ∧
    (profiled.profile.condition = .good ∧ profiled.profile.image = some stored ∧
      crc32 (profileBytes stored) = profiled.profile.crc) ∧
    (∀ im, locked.profile.condition = .good → locked.profile.image = some im → crc32 (profileBytes im) ≠ locked.profile.crc) ∧
    ((after (exec (.powerUp { node := 0, startRun := false } false) locked)).startUp.phase = .waiting ∧
      (after (exec (.powerUp { node := 0, startRun := false } false) locked)).startUp.rstN = false) ∧
    (after (exec (.powerUp { node := 0, startRun := false } true) locked)).startUp.phase = .loading := by
  refine ⟨⟨rfl, rfl⟩, ⟨rfl, rfl, rfl⟩, fun im h => ?_, ⟨rfl, rfl⟩, by decide +kernel⟩
  exact absurd h (by decide)

/-- Statements ResetsRestartAndKeep and ResetLineFallsAndPowerIsLost: the two RESET cells, in a passage that has taken none and in one
that has taken another; RST_N low in operation and in a load; a passage in composition at its fall. -/
theorem test_witness_resets :
    Taken (req 0 zeroPayload) locked (renewLeases (req 0 zeroPayload) locked) ∧ locked.startUp.rstN = true ∧
    (Instr.resetWarm (req 0 zeroPayload)).wellFormed = true ∧
    (Instr.resetFull (req 0 #v[1, 0, 0, 0, 0, 0, 0, 0])).wellFormed = true ∧
    ((after (exec .rstNFall locked)).startUp.rstN = false ∧ (after (exec .rstNFall locked)).startUp.phase = .running) ∧
    (let s := after (exec (.powerUp { node := 0, startRun := false } true) locked)
     (after (exec .rstNFall s)).startUp.rstN = false ∧ (after (exec .rstNFall s)).startUp.phase = .loading) ∧
    (∀ c, locked.ports.composing = some c → c.reset ≠ some .full) ∧
    ((composing (blank 8 4) 6 (some .warm)).ports.composing = some { frame := blank 8 4, next := 6, reset := some .warm } ∧
      (composing (blank 8 4) 6 (some .warm)).startUp.rstN = true ∧
      (after (exec (.resetFull (req 0 zeroPayload)) (composing (blank 8 4) 6 (some .warm)))).startUp.reason = .warmInband ∧
      (after (exec .rstNFall (composing (blank 8 4) 6 (some .warm)))).startUp.reason = .warmInband) :=
  ⟨taken _ _ rfl rfl, rfl, by decide, by decide, by decide +kernel, by decide +kernel, fun c h => (nomatch h),
    ⟨rfl, rfl, by decide +kernel, by decide +kernel⟩⟩

/-- The invariants hold in a state that is not the state after reset, and it has a step. -/
theorem test_witness_invariants :
    (PortsLawful locked ∧ OffLoopLawful locked ∧ OffLoopLawful (after (exec .rstNFall pass5)) ∧ MapsLawful locked ∧ RecordsLawful locked ∧ BanksLawful locked ∧ EngineLawful locked ∧ ProfileLawful locked) ∧
    (CorrectionsLawful locked ∧ PoolLawful locked ∧ MutesLawful locked ∧ LimitsLawful locked) ∧
    (QueueLawful locked ∧ LocksLawful locked ∧ ContextsLawful locked ∧ CaptureLawful locked) ∧ step locked = .next locked := by
  refine ⟨⟨lawful_locked, fun h => absurd ⟨rfl, rfl⟩ h, fun _ => ⟨rfl, by decide +kernel⟩, ?_, ?_, ?_, ?_, ?_⟩, ⟨?_, ?_, ?_, ?_⟩,
    ⟨?_, ?_, ?_, ?_⟩, rfl⟩
  · exact ⟨identityMap_injective, fun im h => absurd h (by simp [locked, State.reset, ProfileStore.initial]),
      fun p h => absurd h (by simp [locked, State.reset, ProfileStore.initial])⟩
  · intro t; simp [locked, State.reset, SlotUnit.initial, SlotRecord.initial, SettleCountLawful]
  · refine ⟨?_, ?_, fun im h => absurd h (by simp [locked, State.reset, ProfileStore.initial])⟩ <;> unfold RowsLawful <;> decide +kernel
  · exact ⟨rfl, rfl⟩
  · exact ⟨fun h => absurd h (by decide), fun p h => absurd h (by simp [locked, State.reset, ProfileStore.initial])⟩
  · intro t; simp [locked, State.reset, Coupling.initial, TargetRecord.initial]
  · exact ⟨by decide, by decide, ⟨0, fun q h => (nomatch h)⟩, List.Pairwise.nil, fun _ => rfl⟩
  · intro t; simp [locked, State.reset, LimitMonitor.initial, LimitRecord.initial]
  · refine ⟨?_, fun im h => absurd h (by simp [locked, State.reset, ProfileStore.initial]),
      fun p h => absurd h (by simp [locked, State.reset, ProfileStore.initial]), ?_, ?_⟩
    · intro i hi
      interval_cases i <;> decide
    · intro t; simp [locked, State.reset, LimitMonitor.initial, LimitRecord.initial, LadderLawful]
    · simp [locked, State.reset, LimitMonitor.initial]
  · exact ⟨by decide, fun e he => absurd he (by simp [locked, State.reset, Management.initial])⟩
  · intro d h hh; cases d <;> simp [locked, State.reset, Management.initial, lockOf] at hh
  · intro m; simp [locked, State.reset, Management.initial, LoadContext.initial, ContextLawful]
  · exact ⟨by decide, by decide, fun h => absurd h (by decide), rfl⟩

end Sys2Proof.Tests
end

section
/-! SUPPORT. A command row does what its code decides, and the rows of the table split into command rows and events. -/

namespace Sys2Proof.Machine

/-! The decision of a row is the decision of its code (log 5) -/

theorem openOn_iff (t : Table) (c : LoadContext) : openOn t c = true ↔ c.state = .opened ∧ c.table = some t := by
  simp [openOn]

/-- A DATA row on table t whose write is what a context OPEN on t decides is the decision of the context. -/
theorem dataRow_eq_decideData {fits : LoadContext → Bool} {write : Request → State → State × Reply} (t : Table) (r : Request)
    (hf : ∀ c, fits c = true → openOn t c = true)
    (h : ∀ s, (contextOf r s).state = .opened → (contextOf r s).table = some t → fits (contextOf r s) = true →
      decideData r s = write r s) : dataRow fits write r = decideData r := by
  funext s
  unfold dataRow
  split
  · next hs =>
    obtain ⟨ho, ht⟩ := (openOn_iff t _).1 (hf _ hs)
    exact (h s ho ht hs).symm
  · rfl

theorem ctReplaceRow_eq (r : Request) :
    dataRow (fun c => openOn .standbyCt c && c.mode == .replace) writeCtReplace r = decideData r :=
  dataRow_eq_decideData .standbyCt r (fun _ h => (Bool.and_eq_true_iff.1 h).1) fun s ho ht h => by
    have hm : (contextOf r s).mode = .replace := by simpa using (Bool.and_eq_true_iff.1 h).2
    simp [decideData, ho, ht, hm]

theorem ctAddRow_eq (r : Request) :
    dataRow (fun c => openOn .standbyCt c && c.mode == .add) writeCtAdd r = decideData r :=
  dataRow_eq_decideData .standbyCt r (fun _ h => (Bool.and_eq_true_iff.1 h).1) fun s ho ht h => by
    have hm : (contextOf r s).mode = .add := by simpa using (Bool.and_eq_true_iff.1 h).2
    simp [decideData, ho, ht, hm]

theorem kernelReplaceRow_eq (r : Request) :
    dataRow (fun c => openOn .standbyKernel c && c.mode == .replace) writeKernelReplace r = decideData r :=
  dataRow_eq_decideData .standbyKernel r (fun _ h => (Bool.and_eq_true_iff.1 h).1) fun s ho ht h => by
    have hm : (contextOf r s).mode = .replace := by simpa using (Bool.and_eq_true_iff.1 h).2
    simp [decideData, ho, ht, hm]

theorem kernelAddRow_eq (r : Request) :
    dataRow (fun c => openOn .standbyKernel c && c.mode == .add) writeKernelAdd r = decideData r :=
  dataRow_eq_decideData .standbyKernel r (fun _ h => (Bool.and_eq_true_iff.1 h).1) fun s ho ht h => by
    have hm : (contextOf r s).mode = .add := by simpa using (Bool.and_eq_true_iff.1 h).2
    simp [decideData, ho, ht, hm]

theorem templateRow_eq (r : Request) : dataRow (openOn .standbyTemplate) writeTemplate r = decideData r :=
  dataRow_eq_decideData .standbyTemplate r (fun _ h => h) fun _ ho ht _ => by simp only [decideData, ho, ht]

theorem slotmapRow_eq (r : Request) : dataRow (openOn .slotmap) writeSlotmap r = decideData r :=
  dataRow_eq_decideData .slotmap r (fun _ h => h) fun _ ho ht _ => by simp only [decideData, ho, ht]

theorem targetsRow_eq (r : Request) : dataRow (openOn .targets) writeTargets r = decideData r :=
  dataRow_eq_decideData .targets r (fun _ h => h) fun _ ho ht _ => by simp only [decideData, ho, ht]

theorem mutesRow_eq (r : Request) : dataRow (openOn .mutes) writeMutes r = decideData r :=
  dataRow_eq_decideData .mutes r (fun _ h => h) fun _ ho ht _ => by simp only [decideData, ho, ht]

theorem limitsRow_eq (r : Request) : dataRow (openOn .limits) writeLimits r = decideData r :=
  dataRow_eq_decideData .limits r (fun _ h => h) fun _ ho ht _ => by simp only [decideData, ho, ht]

theorem alertmapRow_eq (r : Request) : dataRow (openOn .alertmap) writeAlertmap r = decideData r :=
  dataRow_eq_decideData .alertmap r (fun _ h => h) fun _ ho ht _ => by simp only [decideData, ho, ht]

/-- A READ of COUNTERS is what a context OPEN on COUNTERS decides. -/
theorem countersRow_eq (r : Request) :
    (fun s => if openOn .counters (contextOf r s) then readCounter r s else decideRead r s) = decideRead r := by
  funext s
  split
  · next h => obtain ⟨hs, ht⟩ := (openOn_iff _ _).1 h; simp only [decideRead, hs, ht]
  · rfl

/-- A READ of CAPTURE is what a context OPEN on CAPTURE decides. -/
theorem captureRow_eq (r : Request) :
    (fun s => if openOn .capture (contextOf r s) then answerRead .capture r s else decideRead r s) = decideRead r := by
  funext s
  split
  · next h => obtain ⟨hs, ht⟩ := (openOn_iff _ _).1 h; simp only [decideRead, hs, ht]
  · rfl

/-- Every command row is a command cell taken alone, decided by some code (R148, log 5). An ill-formed UNKNOWN_COMMAND is decided
by another code than it answers with. -/
theorem exec_commandRow {i : Instr} {code : Byte} {r : Request} (h : i ∈ commandRows code r) (s : State) :
    ∃ sent decided : Byte, exec i s = .next (takeCommand sent r (decideCommand decided r) s) := by
  simp only [commandRows, List.mem_append, List.mem_cons, List.not_mem_nil, or_false] at h
  rcases h with (rfl | rfl | rfl | rfl | rfl | rfl | rfl | rfl | rfl | rfl | rfl | rfl) |
    (rfl | rfl | rfl | rfl | rfl | rfl | rfl | rfl | rfl | rfl | rfl | rfl | rfl)
  · exact ⟨1, 1, rfl⟩
  · exact ⟨2, 2, rfl⟩
  · exact ⟨3, 3, rfl⟩
  · exact ⟨4, 4, rfl⟩
  · exact ⟨5, 5, by rw [exec, execDataStandbyCtReplace, ctReplaceRow_eq]; rfl⟩
  · exact ⟨5, 5, by rw [exec, execDataStandbyCtAdd, ctAddRow_eq]; rfl⟩
  · exact ⟨5, 5, by rw [exec, execDataStandbyKernelReplace, kernelReplaceRow_eq]; rfl⟩
  · exact ⟨5, 5, by rw [exec, execDataStandbyKernelAdd, kernelAddRow_eq]; rfl⟩
  · exact ⟨5, 5, by rw [exec, execDataStandbyTemplate, templateRow_eq]; rfl⟩
  · exact ⟨5, 5, by rw [exec, execDataSlotmap, slotmapRow_eq]; rfl⟩
  · exact ⟨5, 5, by rw [exec, execDataTargets, targetsRow_eq]; rfl⟩
  · exact ⟨5, 5, by rw [exec, execDataMutes, mutesRow_eq]; rfl⟩
  · exact ⟨5, 5, by rw [exec, execDataLimits, limitsRow_eq]; rfl⟩
  · exact ⟨5, 5, by rw [exec, execDataAlertmap, alertmapRow_eq]; rfl⟩
  · exact ⟨6, 6, rfl⟩
  · exact ⟨6, 6, by rw [exec, execReadCounters, countersRow_eq]; rfl⟩
  · exact ⟨6, 6, by rw [exec, execReadCapture, captureRow_eq]; rfl⟩
  · exact ⟨7, 7, rfl⟩
  · exact ⟨8, 8, rfl⟩
  · exact ⟨9, 9, rfl⟩
  · exact ⟨10, 10, rfl⟩
  · exact ⟨11, 11, rfl⟩
  · exact ⟨12, 12, rfl⟩
  · exact ⟨13, 13, rfl⟩
  · exact ⟨code, 0, rfl⟩

/-! Command rows and events -/

/-- The rows of the table that are no command cell decided by its code: frames, ends of spans, power and resets. -/
inductive IsEvent : Instr → Prop where
  | outboundFrame (f : Frame) (b : PassageStart) (m : Composition) : IsEvent (.outboundFrame f b m)
  | returnFrame (f : Frame) (p : ReturnPassage) : IsEvent (.returnFrame f p)
  | lineIdle : IsEvent .lineIdle
  | lockLoss : IsEvent .lockLoss
  | settleEnd (t : Slot) : IsEvent (.settleEnd t)
  | targetCompletion : IsEvent .targetCompletion
  | shockExit : IsEvent .shockExit
  | lockExpiry (d : Domain) : IsEvent (.lockExpiry d)
  | bankSwap : IsEvent .bankSwap
  | resyncCopyEnd : IsEvent .resyncCopyEnd
  | captureComplete : IsEvent .captureComplete
  | persistEnd (o : ReadBack) : IsEvent (.persistEnd o)
  | persistTimeLimit : IsEvent .persistTimeLimit
  | resetFull (r : Request) : IsEvent (.resetFull r)
  | resetWarm (r : Request) : IsEvent (.resetWarm r)
  | powerUp (x : Straps) (high : Bool) : IsEvent (.powerUp x high)
  | profileLoadEnd : IsEvent .profileLoadEnd
  | rstNFall : IsEvent .rstNFall
  | rstNRise (x : Straps) : IsEvent (.rstNRise x)
  | outboundCellArrival : IsEvent .outboundCellArrival
  | lossOfPower : IsEvent .lossOfPower

/-- Every row of the table is an event or a command row. -/
theorem isEvent_or_commandRow (i : Instr) : IsEvent i ∨ ∃ code r, i ∈ commandRows code r := by
  cases i
  case outboundFrame f b m => exact .inl (.outboundFrame f b m)
  case returnFrame f p => exact .inl (.returnFrame f p)
  case lineIdle => exact .inl .lineIdle
  case lockLoss => exact .inl .lockLoss
  case settleEnd t => exact .inl (.settleEnd t)
  case targetCompletion => exact .inl .targetCompletion
  case shockExit => exact .inl .shockExit
  case lockExpiry d => exact .inl (.lockExpiry d)
  case bankSwap => exact .inl .bankSwap
  case resyncCopyEnd => exact .inl .resyncCopyEnd
  case captureComplete => exact .inl .captureComplete
  case persistEnd o => exact .inl (.persistEnd o)
  case persistTimeLimit => exact .inl .persistTimeLimit
  case resetFull r => exact .inl (.resetFull r)
  case resetWarm r => exact .inl (.resetWarm r)
  case powerUp x high => exact .inl (.powerUp x high)
  case profileLoadEnd => exact .inl .profileLoadEnd
  case rstNFall => exact .inl .rstNFall
  case rstNRise x => exact .inl (.rstNRise x)
  case outboundCellArrival => exact .inl .outboundCellArrival
  case lossOfPower => exact .inl .lossOfPower
  case unknownCommand code r => exact .inr ⟨code, r, by simp [commandRows]⟩
  all_goals next r => exact .inr ⟨0, r, by simp [commandRows]⟩

/-- What every command and every event establishes holds after a step that runs one. -/
theorem exec_establishes (P : State → Prop) (s : State)
    (command : ∀ (sent decided : Byte) (r : Request), P (takeCommand sent r (decideCommand decided r) s))
    (event : ∀ i, IsEvent i → ∀ t, exec i s = .next t → P t) (i : Instr) (t : State) (h : exec i s = .next t) : P t := by
  rcases isEvent_or_commandRow i with hi | ⟨code, r, hi⟩
  · exact event i hi t h
  · obtain ⟨sent, decided, hx⟩ := exec_commandRow hi s
    rw [hx, Host.Outcome.next.injEq] at h
    exact h ▸ command sent decided r

/-- An invariant that does not look at the queue of commands is kept by a step when passTick, every command and every event
keep it. -/
theorem step_preserves (P : State → Prop) (pending : ∀ s q, P s → P (s.setPending q)) (tick : ∀ s, P s → P (passTick s))
    (command : ∀ (sent decided : Byte) (r : Request) (s : State), P s → P (takeCommand sent r (decideCommand decided r) s))
    (event : ∀ i, IsEvent i → ∀ s t, P s → exec i s = .next t → P t) (s t : State) (hs : P s) (h : step s = .next t) : P t := by
  unfold step at h
  split at h
  · rw [Host.Outcome.next.injEq] at h
    exact h ▸ tick s hs
  · next c rest _ =>
    have hq := pending s rest hs
    exact exec_establishes P _ (fun _ _ _ => command _ _ _ _ hq) (fun i hi u => event i hi _ u hq) c t h

end Sys2Proof.Machine
end

section
/-! SUPPORT. The end of a passage, loss of lock and the resets: what each leaves. -/

namespace Sys2Proof.Machine

/-! Cuts and loss of lock -/

theorem cutPassage_of_composing {s : State} {c : Composing} (h : s.ports.composing = some c) :
    cutPassage s = { s with ports := { s.ports with composing := none, outbOut := some (regenerate c.frame) } } := by
  simp only [cutPassage, h]; rfl

theorem endPassage_of_composing {s : State} {c : Composing} (h : s.ports.composing = some c) :
    endPassage s =
      beginReset c.reset { s with ports := { s.ports with composing := none, outbOut := some (regenerate c.frame) } } := by
  rw [endPassage, cutPassage_of_composing h]
  simp [passageReset, h]

theorem loseLock_eq (s : State) : loseLock s = lostLock (endPassage s) := rfl

/-! What a power-up or a FULL reset leaves -/

@[simp] theorem coldStart_ports (u : StartUp) (s : State) : (coldStart u s).ports = freshPorts .transparent s.ports := by
  simp [coldStart, blankPart]

@[simp] theorem coldStart_startUp (u : StartUp) (s : State) : (coldStart u s).startUp = u := by simp [coldStart, blankPart]

@[simp] theorem coldStart_coupling (u : StartUp) (s : State) : (coldStart u s).coupling = Coupling.initial := by
  simp [coldStart, blankPart, State.reset]

@[simp] theorem coldStart_intake (u : StartUp) (s : State) : (coldStart u s).intake = Intake.initial := by
  simp [coldStart, blankPart, State.reset]

@[simp] theorem coldStart_pool (u : StartUp) (s : State) : (coldStart u s).pool = [] := by
  simp [coldStart, blankPart, State.reset]

@[simp] theorem fullReset_ports (s : State) : (fullReset s).ports = freshPorts .transparent s.ports := coldStart_ports _ s

@[simp] theorem fullReset_startUp (s : State) :
    (fullReset s).startUp = { s.startUp with phase := .loading, reason := .full } := coldStart_startUp _ s

@[simp] theorem powerUpSequence_ports (x : Straps) (s : State) :
    (powerUpSequence x s).ports = freshPorts .transparent s.ports := coldStart_ports _ s

/-! The ports after a reset -/

theorem beginReset_of_some {P : State → Prop} {k : Option ResetKind} {s : State} (hn : k = none → P s) (hf : P (fullReset s))
    (hw : P (warmActions .warmInband .active s)) : P (beginReset k s) := by
  match k with
  | none => exact hn rfl
  | some .full => exact hf
  | some .warm => exact hw

@[simp] theorem beginReset_outbOut (k : Option ResetKind) (s : State) : (beginReset k s).ports.outbOut = s.ports.outbOut :=
  beginReset_of_some (P := fun u => u.ports.outbOut = s.ports.outbOut) (fun _ => rfl) (by simp [freshPorts]) rfl

end Sys2Proof.Machine
end

section
/-! PROOFS. Every step keeps the ports lawful, and off the loop no pass runs and every history holds holes. -/

namespace Sys2Proof.Machine

/-! Lawful ports -/

/-- Whether the ports are lawful is seen on the ports and the start-up record. -/
theorem PortsLawful.congr {s t : State} (hs : PortsLawful s) (hp : t.ports = s.ports) (hu : t.startUp = s.startUp) :
    PortsLawful t := by
  unfold PortsLawful at *
  rwa [hp, hu]

/-- A passage is in composition on the loop only, with cells to come, while no return is awaited (R10, R11). -/
theorem PortsLawful.composing {s : State} (hs : PortsLawful s) {c : Composing} (hc : s.ports.composing = some c) :
    OnLoop s ∧ s.ports.frameMatch ≠ .awaiting ∧ validUsed c.frame = true ∧ c.next < c.frame.used.toNat + 4 := by
  obtain ⟨-, -, -, -, -, -, hcomp⟩ := hs
  obtain ⟨ha, hl, rest⟩ := hcomp c hc
  exact ⟨⟨ha, hl⟩, rest⟩

theorem PortsLawful.quiet_of_offLoop {s : State} (hs : PortsLawful s) (h : ¬ OnLoop s) : s.ports.composing = none := by
  cases hc : s.ports.composing with
  | none => rfl
  | some c => exact absurd (hs.composing hc).1 h

/-- A part on the loop runs with RST_N high. -/
theorem PortsLawful.running {s : State} (hs : PortsLawful s) (h : OnLoop s) :
    s.startUp.phase = .running ∧ s.startUp.rstN = true := hs.1.1 h.1

/-- The ports that a reset leaves are lawful under the right port condition. -/
theorem portsLawful_of_fresh {s : State} {c : PortCondition} {p : LoopPorts} (hp : s.ports = freshPorts c p)
    (hc : c = .active ↔ s.startUp.phase = .running ∧ s.startUp.rstN = true) : PortsLawful s := by
  unfold PortsLawful
  rw [hp]
  simpa [freshPorts, LoopPorts.initial, Config.badRunLimit] using hc

theorem coldStart_portsLawful (u : StartUp) (s : State) (h : u.phase = .loading) : PortsLawful (coldStart u s) :=
  portsLawful_of_fresh (coldStart_ports u s) (by simp [h])

theorem beginReset_portsLawful {k : Option ResetKind} {s : State} (hs : PortsLawful s) (ha : s.ports.condition = .active) :
    PortsLawful (beginReset k s) :=
  beginReset_of_some (fun _ => hs) (coldStart_portsLawful _ _ rfl)
    (portsLawful_of_fresh (c := .active) rfl ⟨fun _ => hs.1.1 ha, fun _ => rfl⟩)

/-- The ports with another frame on an output. -/
theorem PortsLawful.forward {s t : State} (hs : PortsLawful s) (o r : Option Frame)
    (hp : t.ports = { s.ports with outbOut := o, retOut := r }) (hu : t.startUp = s.startUp) : PortsLawful t := by
  unfold PortsLawful at *
  rw [hp, hu]
  exact hs

theorem cutPassage_portsLawful {s : State} (hs : PortsLawful s) : PortsLawful (cutPassage s) := by
  obtain ⟨hact, hlock, hmatch, hcand, hbad, hrun, -⟩ := hs
  unfold cutPassage
  split
  · next h => exact ⟨hact, hlock, hmatch, hcand, hbad, hrun, by simp [h]⟩
  · exact ⟨hact, hlock, hmatch, hcand, hbad, hrun, by simp⟩

theorem endPassage_portsLawful {s : State} (hs : PortsLawful s) : PortsLawful (endPassage s) := by
  cases hc : s.ports.composing with
  | none => rwa [endPassage_quiet s hc]
  | some c =>
    refine beginReset_portsLawful (cutPassage_portsLawful hs) ?_
    rw [cutPassage_of_composing hc]
    exact (hs.composing hc).1.1

theorem lostLock_portsLawful {s : State}
    (hact : s.ports.condition = .active ↔ s.startUp.phase = .running ∧ s.startUp.rstN = true) (hq : s.ports.composing = none) :
    PortsLawful (lostLock s) := by
  simpa [PortsLawful, lostLock, hq, Config.badRunLimit] using hact

theorem loseLock_portsLawful {s : State} (hs : PortsLawful s) : PortsLawful (loseLock s) :=
  lostLock_portsLawful (endPassage_portsLawful hs).1 (endPassage_composing s)

/-- A passage ends with its frame awaited, or with the reset taken in it. -/
theorem endOutbound_portsLawful {f : Frame} {a : AreaStep × Vector MgmtCell 4} (hs : PortsLawful a.1.state)
    (hl : OnLoop a.1.state) : PortsLawful (endOutbound f a) := by
  obtain ⟨hact, -, -, hcand, -⟩ := hs
  refine beginReset_portsLawful ?_ (by simpa using hl.1)
  simpa [PortsLawful, hl.2, hcand hl.2, Config.badRunLimit] using hact

theorem finishPassage_portsLawful {s : State} (hs : PortsLawful s) : PortsLawful (finishPassage s) := by
  unfold finishPassage
  split
  · exact hs
  · next c hc =>
    exact endOutbound_portsLawful (hs.congr (by simp) (by simp)) (by simpa [OnLoop] using (hs.composing hc).1)

/-! Outbound frames -/

theorem searchOutbound_portsLawful {f : Frame} {s : State} (hs : PortsLawful s) (hl : s.ports.lock = .searching)
    (hq : s.ports.composing = none) : PortsLawful (searchOutbound f s) := by
  obtain ⟨hact, hlock, hmatch, -, hbad, hrun, -⟩ := hs
  have good : s.ports.lastGood.isSome = false := by simpa [hl] using hlock
  have candidate : ∀ x, PortsLawful (s.setPorts { s.ports with candidate := x }) := fun x =>
    ⟨hact, hlock, hmatch, by simp [hl], hbad, hrun, by simp [hq]⟩
  unfold searchOutbound
  split
  · split
    · split
      · exact ⟨hact, by simp [acquireLock], by simp [acquireLock], by simp [acquireLock], by simp [acquireLock],
          by simp [acquireLock, Config.badRunLimit], by simp [acquireLock, hq]⟩
      · exact candidate _
    · exact candidate _
  · exact (candidate none).congr rfl rfl

theorem badOutbound_portsLawful {s : State} (hs : PortsLawful s) (hl : s.ports.lock = .locked)
    (hq : s.ports.composing = none) : PortsLawful (badOutbound s) := by
  obtain ⟨hact, hlock, hmatch, hcand, hbad, hrun, hcomp⟩ := hs
  unfold badOutbound
  simp only []
  split
  · refine lostLock_portsLawful (s := endPassage _) ?_ (by simp)
    rw [endPassage_quiet _ (by simpa using hq)]
    exact hact
  · next h =>
    exact ⟨hact, hlock, hmatch, hcand, by simp [hl], by simpa using h, by simp [hq]⟩

/-- The gap test settles an awaited return and leaves the rest of the ports (R11). -/
theorem gapTest_ports (p m : Word) (s : State) :
    (gapTest p m s).ports =
      { s.ports with frameMatch := if s.ports.frameMatch = .awaiting then .spent else s.ports.frameMatch } := by
  unfold gapTest
  by_cases h : s.ports.frameMatch = .awaiting <;> by_cases hg : Config.gapFlush ≤ frameGap p m <;> simp [h, hg]

/-- A good outbound frame in LOCKED behind the gap test, before its first cell is composed (R11). -/
def gapTested (f : Frame) (s : State) : State :=
  match s.ports.lastGood with
  | some p => gapTest p.number f.number s
  | none => s

theorem lockedOutbound_atOnce (f : Frame) (s : State) :
    lockedOutbound f .atOnce s =
      finishOutbound (composeFrom 0 f (gapTested f s)).1 (composeFrom 0 f (gapTested f s)).2 := by
  unfold lockedOutbound gapTested
  cases s.ports.lastGood <;> simp only []

theorem lockedOutbound_cut (f : Frame) (k : Fin 5) (s : State) :
    lockedOutbound f (.cut k) s =
      endOutbound (composeFrom 0 f (gapTested f s)).1
        (takeFirst k.val (composeFrom 0 f (gapTested f s)).1.commands (composeFrom 0 f (gapTested f s)).2) := by
  unfold lockedOutbound gapTested
  cases s.ports.lastGood <;> simp only []

theorem lockedOutbound_byCell (f : Frame) (s : State) :
    lockedOutbound f .byCell s =
      (gapTested f s).setPorts
        { (gapTested f s).ports with composing := some { frame := f, next := 0, reset := none } } := by
  unfold lockedOutbound gapTested
  cases s.ports.lastGood <;> simp only []

theorem gapTested_of_some {s : State} {p : LastGood} (h : s.ports.lastGood = some p) (f : Frame) :
    gapTested f s = gapTest p.number f.number s := by simp only [gapTested, h]

theorem gapTested_onLoop {s : State} (hl : OnLoop s) (f : Frame) : OnLoop (gapTested f s) := by
  unfold gapTested
  split
  · simpa [OnLoop, gapTest_ports] using hl
  · exact hl

theorem gapTested_portsLawful {s : State} (hs : PortsLawful s) (hl : OnLoop s) (hq : s.ports.composing = none) (f : Frame) :
    PortsLawful (gapTested f s) ∧ (gapTested f s).ports.frameMatch ≠ .awaiting := by
  obtain ⟨hact, hlock, hmatch, hcand, hbad, hrun, -⟩ := hs
  obtain ⟨p, hp⟩ := Option.isSome_iff_exists.1 (hlock.1 hl.2)
  have hm : s.ports.frameMatch ≠ .noFrame := by simp [hmatch, hp]
  rw [gapTested_of_some hp]
  unfold PortsLawful
  rw [gapTest_ports, gapTest_startUp]
  refine ⟨⟨hact, hlock, ?_, hcand, hbad, hrun, by simp [hq]⟩, ?_⟩
  · split <;> simp [hp, hm]
  · split <;> simp_all

theorem lockedOutbound_portsLawful {f : Frame} {m : Composition} {s : State} (hs : PortsLawful s) (hl : OnLoop s)
    (hq : s.ports.composing = none) (hf : goodCheck f = true) : PortsLawful (lockedOutbound f m s) := by
  obtain ⟨hg, hm⟩ := gapTested_portsLawful hs hl hq f
  have hgl := gapTested_onLoop hl f
  cases m with
  | atOnce =>
    rw [lockedOutbound_atOnce]
    exact endOutbound_portsLawful (hg.congr (by simp) (by simp)) (by simpa [OnLoop] using hgl)
  | cut k =>
    rw [lockedOutbound_cut]
    exact endOutbound_portsLawful (hg.congr (by simp) (by simp)) (by simpa [OnLoop] using hgl)
  | byCell =>
    rw [lockedOutbound_byCell]
    obtain ⟨gact, glock, gmatch, gcand, gbad, grun, -⟩ := hg
    refine ⟨gact, glock, gmatch, gcand, gbad, grun, fun c hc => ?_⟩
    obtain rfl : _ = c := by simpa using hc
    exact ⟨hgl.1, hgl.2, hm, (Bool.and_eq_true_iff.1 hf).1, by simp⟩

theorem outboundFrame_portsLawful {f : Frame} {b : PassageStart} {m : Composition} {s t : State} (hs : PortsLawful s)
    (h : exec (.outboundFrame f b m) s = .next t) : PortsLawful t := by
  have hd := finishPassage_portsLawful hs
  have hq := finishPassage_composing s
  have forwarded : PortsLawful (forwardOutbound f (finishPassage s)) := hd.forward _ _ rfl rfl
  simp only [exec, execOutboundFrame] at h
  split at h
  · cases h; exact hs
  · split at h
    · cases h; exact forwarded
    · next hc =>
      have ha : (finishPassage s).ports.condition = .active := by
        cases hcond : (finishPassage s).ports.condition <;> simp_all
      split at h
      · next hl => cases h; exact searchOutbound_portsLawful forwarded hl hq
      · next hl =>
        split at h
        · next hf => cases h; exact lockedOutbound_portsLawful hd ⟨ha, hl⟩ hq hf
        · cases h; exact badOutbound_portsLawful forwarded hl hq

/-! Cells that arrive -/

theorem arriveCommand_portsLawful {c : Composing} {s : State} (hs : PortsLawful s) (hc : s.ports.composing = some c) :
    PortsLawful (arriveCommand c s) := by
  obtain ⟨hl, hm, hv, -⟩ := hs.composing hc
  have ⟨hact, hlock, hmatch, hcand, hbad, hrun, _⟩ := hs
  unfold arriveCommand
  simp only []
  split
  · next hn =>
    refine PortsLawful.congr (s := s.setPorts { s.ports with composing := some _ }) ?_ (by rw [areaCell_ports]; rfl) (by simp)
    refine ⟨hact, hlock, hmatch, hcand, hbad, hrun, fun x hx => ?_⟩
    obtain rfl : _ = x := by simpa using hx
    exact ⟨hl.1, hl.2, hm, hv, hn⟩
  · exact endOutbound_portsLawful (hs.congr (by simp) (by simp)) (by simpa [OnLoop] using hl)

/-- Composing a cell changes slot cells alone. -/
theorem composeCell_used (pos : Fin 64) (f : Frame) (s : State) : (composeCell pos f s).1.used = f.used := by
  unfold composeCell
  split
  · split <;> rfl
  · rfl

theorem outboundCellArrival_portsLawful {s t : State} (hs : PortsLawful s) (h : exec .outboundCellArrival s = .next t) :
    PortsLawful t := by
  simp only [exec, execOutboundCellArrival] at h
  split at h
  · cases h; exact hs
  · next c hc =>
    split at h
    · next hn =>
      cases h
      obtain ⟨hl, hm, hv, -⟩ := hs.composing hc
      have ⟨hact, hlock, hmatch, hcand, hbad, hrun, _⟩ := hs
      refine PortsLawful.congr (s := s.setPorts { s.ports with composing := some _ }) ?_ (by rw [composeCell_ports]; rfl)
        (by simp)
      refine ⟨hact, hlock, hmatch, hcand, hbad, hrun, fun x hx => ?_⟩
      obtain rfl : _ = x := by simpa using hx
      refine ⟨hl.1, hl.2, hm, ?_, ?_⟩
      · simpa [validUsed, composeCell_used] using hv
      · simp only [composeCell_used]; omega
    · cases h; exact arriveCommand_portsLawful hs hc

/-! Return frames -/

/-- A return that has been settled leaves the match state SPENT. -/
theorem PortsLawful.spend {s t : State} (hs : PortsLawful s) (ha : s.ports.frameMatch = .awaiting) (o : Option Frame)
    (hp : t.ports = { s.ports with frameMatch := .spent, retOut := o }) (hu : t.startUp = s.startUp) : PortsLawful t := by
  have ⟨hact, hlock, hmatch, hcand, hbad, hrun, hcomp⟩ := hs
  unfold PortsLawful
  rw [hp, hu]
  refine ⟨hact, hlock, ?_, hcand, hbad, hrun, fun c hc => ?_⟩
  · rw [ha] at hmatch; simpa using hmatch
  · exact absurd ha (hs.composing hc).2.1

theorem failedReturn_portsLawful {c : CounterId} {f : Frame} {s : State} (hs : PortsLawful s) :
    PortsLawful (failedReturn c f s) := by
  unfold failedReturn
  simp only []
  split
  · next ha _ => exact hs.spend ha (some f) (by rw [giveHole_ports]; rfl) (by simp)
  · exact hs.forward _ (some f) rfl rfl

theorem matchesReturn_awaiting {p : LoopPorts} {f : Frame} (h : matchesReturn p f = true) : p.frameMatch = .awaiting := by
  simp only [matchesReturn, Bool.and_eq_true, beq_iff_eq] at h
  exact h.1

theorem returnFrame_portsLawful {f : Frame} {p : ReturnPassage} {s t : State} (hs : PortsLawful s)
    (h : exec (.returnFrame f p) s = .next t) : PortsLawful t := by
  have forwarded : PortsLawful (forwardReturn f s) := hs.forward _ _ rfl rfl
  have received : PortsLawful (receivedReturn f s) := by
    unfold receivedReturn
    split
    · exact failedReturn_portsLawful hs
    · split
      · next hm => exact hs.spend (matchesReturn_awaiting hm) _ (by simp [matchedReturn]; rfl) (by simp)
      · exact failedReturn_portsLawful hs
  simp only [exec, execReturnFrame] at h
  split at h
  · cases h; exact hs
  · split at h
    · cases h; exact forwarded
    · split at h
      · cases h
        split
        · next hm => exact hs.spend (matchesReturn_awaiting (Bool.and_eq_true_iff.1 hm).2) _ rfl rfl
        · exact forwarded
      all_goals cases h; exact received

/-! Resets, power and the reset line -/

/-- A passage that carried a RESET goes out with its slot cells composed (R18). -/
theorem closePassage_ports {s : State} {c : Composing} (h : s.ports.composing = some c) :
    (closePassage s).ports =
      { s.ports with composing := none, outbOut := some (regenerate (composeFrom c.next c.frame s).1) } := by
  simp only [closePassage, h]
  rw [cutPassage_of_composing (c := { c with frame := (composeFrom c.next c.frame s).1 }) rfl]
  simp

theorem closePassage_of_quiet {s : State} (h : s.ports.composing = none) : closePassage s = s := by
  simp only [closePassage, h]

@[simp] theorem closePassage_condition (s : State) : (closePassage s).ports.condition = s.ports.condition := by
  cases hc : s.ports.composing with
  | none => rw [closePassage_of_quiet hc]
  | some c => rw [closePassage_ports hc]

theorem closePassage_portsLawful {s : State} (hs : PortsLawful s) : PortsLawful (closePassage s) := by
  cases hc : s.ports.composing with
  | none => rwa [closePassage_of_quiet hc]
  | some c =>
    have cut := cutPassage_portsLawful hs
    rw [cutPassage_of_composing hc] at cut
    exact cut.forward _ s.ports.retOut (closePassage_ports hc) (by simp)

theorem takeReset_portsLawful {k : ResetKind} {r : Request} {s : State} (hs : PortsLawful s) :
    PortsLawful (takeReset k r s) := by
  unfold takeReset
  split
  · next hl =>
    split
    · have closed := closePassage_portsLawful hs
      have ha : (closePassage s).ports.condition = .active := by
        rw [closePassage_condition]; exact ((onLoop_iff s).1 hl).1
      exact beginReset_portsLawful (closed.congr rfl rfl) ha
    · exact hs.congr rfl rfl
  · exact hs

theorem lineIdle_portsLawful {s t : State} (hs : PortsLawful s) (h : exec .lineIdle s = .next t) : PortsLawful t := by
  simp only [exec, execLineIdle] at h
  split at h
  · next hl =>
    cases h
    have ⟨hact, hlock, hmatch, _, hbad, hrun, hcomp⟩ := hs
    exact ⟨hact, hlock, hmatch, fun _ => rfl, hbad, hrun, hcomp⟩
  · cases h; exact loseLock_portsLawful hs
  · cases h; exact hs

theorem profileLoadEnd_portsLawful {s t : State} (hs : PortsLawful s) (h : exec .profileLoadEnd s = .next t) :
    PortsLawful t := by
  simp only [exec, execProfileLoadEnd] at h
  split at h
  · cases h; exact portsLawful_of_fresh rfl (by simp)
  · cases h; exact hs

theorem rstNFall_portsLawful {s t : State} (hs : PortsLawful s) (h : exec .rstNFall s = .next t) : PortsLawful t := by
  simp only [exec, execRstNFall] at h
  split at h
  · cases h
    obtain ⟨-, hlock, hmatch, hcand, hbad, hrun, -⟩ := endPassage_portsLawful hs
    exact ⟨by simp, hlock, hmatch, hcand, hbad, hrun, by simp⟩
  · cases h; exact hs

theorem rstNRise_portsLawful {x : Straps} {s t : State} (hs : PortsLawful s) (h : exec (.rstNRise x) s = .next t) :
    PortsLawful t := by
  simp only [exec, execRstNRise] at h
  split at h
  · cases h; exact hs
  · next hr =>
    split at h
    · next hp =>
      cases h
      have ⟨hact, hrest⟩ := hs
      exact ⟨by simpa [hp, hr] using hact, hrest⟩
    · cases h; exact coldStart_portsLawful _ _ rfl
    · next hp => cases h; exact portsLawful_of_fresh rfl (by simp [warmActions, hp])
    · next hp => cases h; exact portsLawful_of_fresh rfl (by simp [warmActions, hp])

theorem unpower_portsLawful (s : State) : PortsLawful (unpower s) := portsLawful_of_fresh (c := .transparent) (p := LoopPorts.initial)
  rfl (by simp [unpower])

theorem powerUp_portsLawful {x : Straps} {high : Bool} {s t : State} (h : exec (.powerUp x high) s = .next t) :
    PortsLawful t := by
  simp only [exec, execPowerUp] at h
  split at h
  · cases h; exact coldStart_portsLawful _ _ rfl
  · cases h
    exact portsLawful_of_fresh (c := .transparent) (p := LoopPorts.initial) rfl (by simp)

/-! The step -/

@[simp] theorem takeCommand_ports (sent decided : Byte) (r : Request) (s : State) :
    (takeCommand sent r (decideCommand decided r) s).ports = s.ports :=
  takeCommand_keeps (fun s => s.ports) _ _ _ _ (fun _ => rfl) (fun _ _ => rfl) (fun _ => rfl) (fun _ => by simp)

@[simp] theorem takeCommand_startUp (sent decided : Byte) (r : Request) (s : State) :
    (takeCommand sent r (decideCommand decided r) s).startUp = s.startUp :=
  takeCommand_keeps (fun s => s.startUp) _ _ _ _ (fun _ => rfl) (fun _ _ => rfl) (fun _ => rfl) (fun _ => by simp)

/-- The end of a span and of self-timed work leaves the ports and the start-up record (log 4). -/
def KeepsPorts (s : State) (o : Host.Outcome State Fault Refusal) : Prop :=
  ∀ t, o = .next t → t.ports = s.ports ∧ t.startUp = s.startUp

theorem settleEnd_keepsPorts (u : Slot) (s : State) : KeepsPorts s (exec (.settleEnd u) s) := by
  intro t h; rw [exec, execSettleEnd, Host.Outcome.next.injEq] at h; subst h; split <;> simp

theorem targetCompletion_keepsPorts (s : State) : KeepsPorts s (exec .targetCompletion s) := by
  intro t h
  simp only [exec, execTargetCompletion] at h
  split at h <;> (rw [Host.Outcome.next.injEq] at h; subst h; simp)

theorem shockExit_keepsPorts (s : State) : KeepsPorts s (exec .shockExit s) := by
  intro t h; rw [exec, execShockExit, Host.Outcome.next.injEq] at h; subst h; split <;> simp

theorem lockExpiry_keepsPorts (d : Domain) (s : State) : KeepsPorts s (exec (.lockExpiry d) s) := by
  intro t h; rw [exec, execLockExpiry, Host.Outcome.next.injEq] at h; subst h; split <;> simp

theorem bankSwap_keepsPorts (s : State) : KeepsPorts s (exec .bankSwap s) := by
  intro t h; rw [exec, execBankSwap, Host.Outcome.next.injEq] at h; subst h; split <;> simp

theorem resyncCopyEnd_keepsPorts (s : State) : KeepsPorts s (exec .resyncCopyEnd s) := by
  intro t h; rw [exec, execResyncCopyEnd, Host.Outcome.next.injEq] at h; subst h; split <;> simp

theorem captureComplete_keepsPorts (s : State) : KeepsPorts s (exec .captureComplete s) := by
  intro t h; rw [exec, execCaptureComplete, Host.Outcome.next.injEq] at h; subst h; split <;> simp

theorem persistEnd_keepsPorts (o : ReadBack) (s : State) : KeepsPorts s (exec (.persistEnd o) s) := by
  intro t h
  simp only [exec, execPersistEnd] at h
  split at h <;> (rw [Host.Outcome.next.injEq] at h; subst h; simp)

theorem persistTimeLimit_keepsPorts (s : State) : KeepsPorts s (exec .persistTimeLimit s) := by
  intro t h; rw [exec, execPersistTimeLimit, Host.Outcome.next.injEq] at h; subst h; split <;> simp

theorem KeepsPorts.portsLawful {s t : State} {o : Host.Outcome State Fault Refusal} (hk : KeepsPorts s o) (hs : PortsLawful s)
    (h : o = .next t) : PortsLawful t := hs.congr (hk t h).1 (hk t h).2

theorem event_portsLawful (i : Instr) (hi : IsEvent i) (s t : State) (hs : PortsLawful s) (h : exec i s = .next t) :
    PortsLawful t := by
  cases hi with
  | outboundFrame f b m => exact outboundFrame_portsLawful hs h
  | returnFrame f p => exact returnFrame_portsLawful hs h
  | lineIdle => exact lineIdle_portsLawful hs h
  | lockLoss =>
    cases h
    split
    · exact loseLock_portsLawful hs
    · exact hs
  | settleEnd u => exact (settleEnd_keepsPorts u s).portsLawful hs h
  | targetCompletion => exact (targetCompletion_keepsPorts s).portsLawful hs h
  | shockExit => exact (shockExit_keepsPorts s).portsLawful hs h
  | lockExpiry d => exact (lockExpiry_keepsPorts d s).portsLawful hs h
  | bankSwap => exact (bankSwap_keepsPorts s).portsLawful hs h
  | resyncCopyEnd => exact (resyncCopyEnd_keepsPorts s).portsLawful hs h
  | captureComplete => exact (captureComplete_keepsPorts s).portsLawful hs h
  | persistEnd o => exact (persistEnd_keepsPorts o s).portsLawful hs h
  | persistTimeLimit => exact (persistTimeLimit_keepsPorts s).portsLawful hs h
  | resetFull r => cases h; exact takeReset_portsLawful hs
  | resetWarm r => cases h; exact takeReset_portsLawful hs
  | powerUp x high => exact powerUp_portsLawful h
  | profileLoadEnd => exact profileLoadEnd_portsLawful hs h
  | rstNFall => exact rstNFall_portsLawful hs h
  | rstNRise x => exact rstNRise_portsLawful hs h
  | outboundCellArrival => exact outboundCellArrival_portsLawful hs h
  | lossOfPower => cases h; exact unpower_portsLawful s

theorem step_portsLawful (s t : State) (hs : PortsLawful s) (h : step s = .next t) : PortsLawful t :=
  step_preserves PortsLawful (fun _ _ hs => hs) (fun _ hs => hs.congr (by simp) (by simp))
    (fun _ _ _ _ hs => hs.congr (by simp) (by simp)) event_portsLawful s t hs h

end Sys2Proof.Machine
end

section
namespace Sys2Proof.Machine

/-! Off the loop -/

/-- No pass runs and every history holds holes only. -/
def AtRest (s : State) : Prop := s.coupling.pass = none ∧ ∀ t : Slot, s.intake.history[t] = History.holes

theorem AtRest.congr {s t : State} (hs : AtRest s) (hc : t.coupling.pass = s.coupling.pass) (hi : t.intake = s.intake) :
    AtRest t := by
  unfold AtRest at *
  rwa [hc, hi]

theorem AtRest.offLoopLawful {s : State} (h : AtRest s) : OffLoopLawful s := fun _ => h

theorem OnLoop.offLoopLawful {s : State} (h : OnLoop s) : OffLoopLawful s := fun hn => absurd h hn

theorem OffLoopLawful.congr {s t : State} (hs : OffLoopLawful s) (hl : OnLoop s → OnLoop t)
    (hc : t.coupling.pass = s.coupling.pass) (hi : t.intake = s.intake) : OffLoopLawful t :=
  fun hn => AtRest.congr (hs fun h => hn (hl h)) hc hi

theorem OnLoop.of_ports {s t : State} (hs : OnLoop s) (hp : t.ports = s.ports) : OnLoop t := by
  unfold OnLoop at *
  rwa [hp]

theorem coldStart_atRest (u : StartUp) (s : State) : AtRest (coldStart u s) := by
  simp [AtRest, Coupling.initial, Intake.initial]

theorem warmActions_atRest (r : ResetReason) (c : PortCondition) (s : State) : AtRest (warmActions r c s) := by
  simp [AtRest, warmActions, Coupling.initial, Intake.initial]

theorem lostLock_atRest (s : State) : AtRest (lostLock s) := by simp [AtRest, lostLock, flushedIntake]

theorem beginReset_offLoopLawful {k : Option ResetKind} {s : State} (hs : OffLoopLawful s) : OffLoopLawful (beginReset k s) :=
  beginReset_of_some (fun _ => hs) (coldStart_atRest _ _).offLoopLawful (warmActions_atRest _ _ _).offLoopLawful

theorem endOutbound_offLoopLawful {f : Frame} {a : AreaStep × Vector MgmtCell 4} (hl : OnLoop a.1.state) :
    OffLoopLawful (endOutbound f a) :=
  beginReset_offLoopLawful (OnLoop.offLoopLawful hl)

theorem finishPassage_offLoopLawful {s : State} (hp : PortsLawful s) (hs : OffLoopLawful s) :
    OffLoopLawful (finishPassage s) := by
  unfold finishPassage
  split
  · exact hs
  · next c hc => exact endOutbound_offLoopLawful ((hp.composing hc).1.of_ports (by simp))

theorem searchOutbound_offLoopLawful {f : Frame} {s : State} (hs : OffLoopLawful s) (hl : s.ports.lock = .searching) :
    OffLoopLawful (searchOutbound f s) :=
  AtRest.offLoopLawful (AtRest.congr (hs (by simp [hl])) (by simp) (by simp))

theorem badOutbound_offLoopLawful {s : State} (hl : OnLoop s) : OffLoopLawful (badOutbound s) := by
  unfold badOutbound
  simp only []
  split
  · exact (lostLock_atRest _).offLoopLawful
  · exact OnLoop.offLoopLawful hl

theorem lockedOutbound_offLoopLawful {f : Frame} {m : Composition} {s : State} (hl : OnLoop s) :
    OffLoopLawful (lockedOutbound f m s) := by
  have hg := gapTested_onLoop hl f
  cases m with
  | atOnce => rw [lockedOutbound_atOnce]; exact endOutbound_offLoopLawful (hg.of_ports (by simp))
  | cut k => rw [lockedOutbound_cut]; exact endOutbound_offLoopLawful (hg.of_ports (by simp))
  | byCell => rw [lockedOutbound_byCell]; exact OnLoop.offLoopLawful hg

theorem outboundFrame_offLoopLawful {f : Frame} {b : PassageStart} {m : Composition} {s t : State} (hp : PortsLawful s)
    (hs : OffLoopLawful s) (h : exec (.outboundFrame f b m) s = .next t) : OffLoopLawful t := by
  have hd := finishPassage_offLoopLawful hp hs
  have forwarded : OffLoopLawful (forwardOutbound f (finishPassage s)) := hd.congr id rfl rfl
  simp only [exec, execOutboundFrame] at h
  split at h
  · cases h; exact hs
  · split at h
    · cases h; exact forwarded
    · next hc =>
      have ha : (finishPassage s).ports.condition = .active := by
        cases hcond : (finishPassage s).ports.condition <;> simp_all
      split at h
      · next hl => cases h; exact searchOutbound_offLoopLawful forwarded hl
      · next hl =>
        split at h
        · cases h; exact lockedOutbound_offLoopLawful ⟨ha, hl⟩
        · cases h; exact badOutbound_offLoopLawful ⟨ha, hl⟩

/-- A return leaves port condition and lock. -/
theorem returnFrame_loop {f : Frame} {p : ReturnPassage} {s t : State} (h : exec (.returnFrame f p) s = .next t) :
    t.ports.condition = s.ports.condition ∧ t.ports.lock = s.ports.lock := by
  have received : (receivedReturn f s).ports.condition = s.ports.condition ∧ (receivedReturn f s).ports.lock = s.ports.lock := by
    have failed : ∀ c, (failedReturn c f s).ports.condition = s.ports.condition ∧ (failedReturn c f s).ports.lock = s.ports.lock := by
      intro c
      unfold failedReturn
      simp only []
      split <;> simp [forwardReturn]
    unfold receivedReturn
    split
    · exact failed _
    · split
      · simp [matchedReturn]
      · exact failed _
  simp only [exec, execReturnFrame] at h
  split at h
  · cases h; exact ⟨rfl, rfl⟩
  · split at h
    · cases h; exact ⟨rfl, rfl⟩
    · split at h
      · cases h
        split <;> exact ⟨rfl, rfl⟩
      all_goals cases h; exact received

theorem returnFrame_offLoopLawful {f : Frame} {p : ReturnPassage} {s t : State} (hs : OffLoopLawful s)
    (h : exec (.returnFrame f p) s = .next t) : OffLoopLawful t := by
  by_cases hl : OnLoop s
  · obtain ⟨hc, hk⟩ := returnFrame_loop h
    exact OnLoop.offLoopLawful ⟨hc.trans hl.1, hk.trans hl.2⟩
  · have hf : onLoop s = false := by rw [← onLoop_iff] at hl; simpa using hl
    simp only [exec, execReturnFrame, hf] at h
    split at h <;> cases h
    · exact hs
    · exact hs.congr id rfl rfl

theorem outboundCellArrival_offLoopLawful {s t : State} (hp : PortsLawful s) (hs : OffLoopLawful s)
    (h : exec .outboundCellArrival s = .next t) : OffLoopLawful t := by
  simp only [exec, execOutboundCellArrival] at h
  split at h
  · cases h; exact hs
  · next c hc =>
    have hl := (hp.composing hc).1
    split at h
    · cases h; exact OnLoop.offLoopLawful (by simpa [OnLoop] using hl)
    · cases h
      unfold arriveCommand
      simp only []
      split
      · exact OnLoop.offLoopLawful (by simpa [OnLoop] using hl)
      · exact endOutbound_offLoopLawful (hl.of_ports (by simp))

theorem takeReset_offLoopLawful {k : ResetKind} {r : Request} {s : State} (hs : OffLoopLawful s) :
    OffLoopLawful (takeReset k r s) := by
  unfold takeReset
  split
  · split
    · refine beginReset_of_some (by simp) (coldStart_atRest _ _).offLoopLawful (warmActions_atRest _ _ _).offLoopLawful
    · exact hs.congr id rfl rfl
  · exact hs

theorem profileLoadEnd_offLoopLawful {s t : State} (hp : PortsLawful s) (hs : OffLoopLawful s)
    (h : exec .profileLoadEnd s = .next t) : OffLoopLawful t := by
  simp only [exec, execProfileLoadEnd] at h
  split at h
  · next hl =>
    cases h
    have rest : AtRest s := hs fun hon => by simpa [hl] using (hp.running hon).1
    exact AtRest.offLoopLawful (rest.congr rfl rfl)
  · cases h; exact hs

theorem rstNFall_offLoopLawful {s t : State} (hs : OffLoopLawful s) (h : exec .rstNFall s = .next t) : OffLoopLawful t := by
  simp only [exec, execRstNFall] at h
  split at h
  · cases h; exact AtRest.offLoopLawful ⟨rfl, by simp [flushAll]⟩
  · cases h; exact hs

theorem rstNRise_offLoopLawful {x : Straps} {s t : State} (hs : OffLoopLawful s) (h : exec (.rstNRise x) s = .next t) :
    OffLoopLawful t := by
  simp only [exec, execRstNRise] at h
  split at h
  · cases h; exact hs
  · split at h
    · cases h; exact hs.congr id rfl rfl
    · cases h; exact (coldStart_atRest _ _).offLoopLawful
    · cases h; exact (warmActions_atRest _ _ _).offLoopLawful
    · cases h; exact (warmActions_atRest _ _ _).offLoopLawful

theorem unpower_atRest (s : State) : AtRest (unpower s) := by
  simp [AtRest, unpower, State.reset, Coupling.initial, Intake.initial]

theorem powerUp_offLoopLawful {x : Straps} {high : Bool} {s t : State} (h : exec (.powerUp x high) s = .next t) :
    OffLoopLawful t := by
  simp only [exec, execPowerUp] at h
  split at h
  · cases h; exact (coldStart_atRest _ _).offLoopLawful
  · cases h; exact (AtRest.congr (unpower_atRest s) rfl rfl).offLoopLawful

/-- What leaves the ports keeps the rule off the loop when it keeps a part at rest. -/
theorem KeepsPorts.offLoopLawful {s t : State} {o : Host.Outcome State Fault Refusal} (hk : KeepsPorts s o)
    (hs : OffLoopLawful s) (hr : ¬ OnLoop s → AtRest s → AtRest t) (h : o = .next t) : OffLoopLawful t := by
  intro hn
  have hl : ¬ OnLoop s := fun hl => hn (hl.of_ports (hk t h).1)
  exact hr hl (hs hl)

theorem onLoop_false {s : State} (h : ¬ OnLoop s) : onLoop s = false := by
  rw [← onLoop_iff] at h; simpa using h

theorem takeCommand_offLoop {s : State} (h : ¬ OnLoop s) (code : Byte) (r : Request) (d : State → State × Reply) :
    takeCommand code r d s = s := by simp [takeCommand, onLoop_false h]

theorem event_offLoopLawful (i : Instr) (hi : IsEvent i) (s t : State) (hp : PortsLawful s) (hs : OffLoopLawful s)
    (h : exec i s = .next t) : OffLoopLawful t := by
  cases hi with
  | outboundFrame f b m => exact outboundFrame_offLoopLawful hp hs h
  | returnFrame f p => exact returnFrame_offLoopLawful hs h
  | lineIdle =>
    simp only [exec, execLineIdle] at h
    split at h <;> cases h
    · exact hs.congr id rfl rfl
    · exact (lostLock_atRest _).offLoopLawful
    · exact hs
  | lockLoss =>
    cases h
    split
    · exact (lostLock_atRest _).offLoopLawful
    · exact hs
  | settleEnd u =>
    refine (settleEnd_keepsPorts u s).offLoopLawful hs (fun hl hr => ?_) h
    simp only [exec, execSettleEnd, onLoop_false hl, Bool.false_and, Bool.false_eq_true, if_false] at h
    cases h; exact hr
  | targetCompletion =>
    refine (targetCompletion_keepsPorts s).offLoopLawful hs (fun hl hr => ?_) h
    rw [exec, execTargetCompletion, hr.1] at h
    cases h; exact hr
  | shockExit =>
    refine (shockExit_keepsPorts s).offLoopLawful hs (fun hl hr => ?_) h
    simp only [exec, execShockExit, onLoop_false hl, Bool.false_and, Bool.false_eq_true, if_false] at h
    cases h; exact hr
  | lockExpiry d =>
    refine (lockExpiry_keepsPorts d s).offLoopLawful hs (fun hl hr => ?_) h
    simp only [exec, execLockExpiry, onLoop_false hl, Bool.false_and, Bool.false_eq_true, if_false] at h
    cases h; exact hr
  | bankSwap =>
    refine (bankSwap_keepsPorts s).offLoopLawful hs (fun hl hr => ?_) h
    simp only [exec, execBankSwap, onLoop_false hl, Bool.false_and, Bool.false_eq_true, if_false] at h
    cases h; exact hr
  | resyncCopyEnd =>
    refine (resyncCopyEnd_keepsPorts s).offLoopLawful hs (fun hl hr => ?_) h
    simp only [exec, execResyncCopyEnd, onLoop_false hl, Bool.false_and, Bool.false_eq_true, if_false] at h
    cases h; exact hr
  | captureComplete =>
    refine (captureComplete_keepsPorts s).offLoopLawful hs (fun hl hr => ?_) h
    rw [exec, execCaptureComplete, Host.Outcome.next.injEq] at h
    subst h
    split
    · exact hr.congr (by simp) (by simp)
    · exact hr
  | persistEnd o =>
    refine (persistEnd_keepsPorts o s).offLoopLawful hs (fun hl hr => ?_) h
    simp only [exec, execPersistEnd] at h
    split at h <;> (rw [Host.Outcome.next.injEq] at h; subst h)
    · exact hr.congr (by simp) (by simp)
    · exact hr
  | persistTimeLimit =>
    refine (persistTimeLimit_keepsPorts s).offLoopLawful hs (fun hl hr => ?_) h
    simp only [exec, execPersistTimeLimit, onLoop_false hl, Bool.false_and, Bool.false_eq_true, if_false] at h
    cases h; exact hr
  | resetFull r => cases h; exact takeReset_offLoopLawful hs
  | resetWarm r => cases h; exact takeReset_offLoopLawful hs
  | powerUp x high => exact powerUp_offLoopLawful h
  | profileLoadEnd => exact profileLoadEnd_offLoopLawful hp hs h
  | rstNFall => exact rstNFall_offLoopLawful hs h
  | rstNRise x => exact rstNRise_offLoopLawful hs h
  | outboundCellArrival => exact outboundCellArrival_offLoopLawful hp hs h
  | lossOfPower => cases h; exact (unpower_atRest s).offLoopLawful

theorem step_offLoopLawful (s t : State) (hp : PortsLawful s) (hs : OffLoopLawful s) (h : step s = .next t) :
    OffLoopLawful t := by
  refine (step_preserves (fun s => PortsLawful s ∧ OffLoopLawful s) (fun _ _ h => h) ?_ ?_ ?_ s t ⟨hp, hs⟩ h).2
  · rintro s ⟨hp, hs⟩
    refine ⟨hp.congr (by simp) (by simp), fun hn => ?_⟩
    have hr : AtRest s := hs fun hl => hn (OnLoop.of_ports hl (passTick_ports s))
    have : passTick s = s := by simp only [passTick, hr.1]
    rwa [this]
  · rintro sent decided r s ⟨hp, hs⟩
    refine ⟨hp.congr (by simp) (by simp), fun hn => ?_⟩
    have hl : ¬ OnLoop s := fun hl => hn (OnLoop.of_ports hl (takeCommand_ports _ _ _ _))
    rw [takeCommand_offLoop hl]
    exact hs hl
  · rintro i hi s t ⟨hp, hs⟩ h
    exact ⟨event_portsLawful i hi s t hp h, event_offLoopLawful i hi s t hp hs h⟩

/-- Settles O53: every command and every event keeps the ports lawful and, off the loop, the part at rest. -/
theorem portsStayLawful : Obligations.PortsStayLawful := ⟨step_portsLawful, step_offLoopLawful⟩

end Sys2Proof.Machine
end

section
/-! PROOFS. The Pulse Pool is not kept lawful by every step: the end of a profile load that finds the part LOCKED (as no run does)
makes it SEARCHING and leaves the pool (R7, R20, R110). -/

namespace Sys2Proof.Machine

/-- An instance of slot 0, playing since frame FFFFh. -/
def playingPulse : Pulse :=
  { source := 0, lengthClass := 0, direction := .inward, onset := 0, position := 0, play := .playing }

/-- A part in RUN that is LOCKED with one pulse instance, its ports TRANSPARENT in a profile load that is about to end. Its ports
are lawful. -/
def lockedInLoad : State :=
  { State.reset with
    ports :=
      { LoopPorts.initial with
        condition := .transparent, lock := .locked, lastGood := some { number := 0, used := 1 }, frameMatch := .spent }
    pool := [playingPulse]
    limit := { LimitMonitor.initial with mode := .run }
    startUp := { State.reset.startUp with phase := .loading }
    pending := [.profileLoadEnd] }

theorem lockedInLoad_portsLawful : PortsLawful lockedInLoad := by
  simp [PortsLawful, lockedInLoad, LoopPorts.initial, Config.badRunLimit]

theorem lockedInLoad_poolLawful : PoolLawful lockedInLoad :=
  ⟨by decide, by decide, ⟨0xFFFF, by decide⟩, by simp [lockedInLoad], by simp [lockedInLoad]⟩

/-- The step that ends the load leaves SEARCHING with the instance still in the pool. -/
theorem step_lockedInLoad :
    ∃ t, step lockedInLoad = .next t ∧ t.ports.lock = .searching ∧ t.pool = [playingPulse] := ⟨_, rfl, rfl, rfl⟩

/-- Refutes O56, in its part about the pool: PROFILE_LOAD_END in a part that is LOCKED while it loads. -/
theorem not_correctionsAndPoolStayLawful : ¬ Obligations.CorrectionsAndPoolStayLawful := by
  intro ⟨_, hpool⟩
  obtain ⟨t, hstep, hlock, hp⟩ := step_lockedInLoad
  obtain ⟨-, -, -, -, hempty⟩ := hpool lockedInLoad t lockedInLoad_poolLawful hstep
  simpa [hp] using hempty (.inr (.inr hlock))

end Sys2Proof.Machine
end

section
/-! PROOFS. The state after reset, the taking of commands, SEARCHING and the loss of lock. -/

namespace Sys2Proof.Machine

/-! The state after reset -/

theorem mapInjective_identity : MapInjective identityMap := by
  intro t u c ht hu
  simp only [identityMap, Vector.getElem_ofFn, Fin.getElem_fin, Fin.eta, Option.some.injEq] at ht hu
  exact ht.trans hu.symm

theorem rowsLawful_cleared : RowsLawful Bank.cleared := by
  intro t
  have h : presentEntries (Vector.replicate 8 none) = [] := by decide
  simp [lawfulRow, Bank.cleared, h]

theorem limitsInRange_defaults : LimitsInRange Limits.defaults := by
  unfold LimitsInRange
  decide

theorem reset_runtimeCleared : RuntimeCleared State.reset := by
  simp [RuntimeCleared, State.reset, LoopPorts.initial, SlotUnit.initial, SlotRecord.initial, Intake.initial, BankUnit.initial,
    Coupling.initial, TargetRecord.initial, LimitMonitor.initial, Management.initial, LoadContext.initial,
    ProfileStore.initial]
  rintro (_ | _ | _ | _) <;> rfl

/-- Settles O60, invariant by invariant. -/
theorem resetIsLawful : Obligations.ResetIsLawful := by
  refine ⟨portsLawful_of_fresh (c := .active) (p := LoopPorts.initial) rfl (by simp [State.reset]),
    AtRest.offLoopLawful (by simp [AtRest, State.reset, Coupling.initial, Intake.initial]),
    ⟨mapInjective_identity, by simp [State.reset, ProfileStore.initial], by simp [State.reset, ProfileStore.initial]⟩,
    fun t => by simp [SettleCountLawful, State.reset, SlotUnit.initial, SlotRecord.initial],
    ⟨rowsLawful_cleared, rowsLawful_cleared, by simp [State.reset, ProfileStore.initial]⟩,
    ⟨rfl, rfl⟩, ⟨by simp [State.reset, ProfileStore.initial], by simp [State.reset, ProfileStore.initial]⟩,
    fun t => by simp [State.reset, Coupling.initial, TargetRecord.initial],
    ⟨by decide, by decide, ⟨0, by simp [State.reset]⟩, by simp [State.reset], fun _ => rfl⟩,
    fun t => by simp [State.reset, LimitMonitor.initial, LimitRecord.initial],
    ⟨limitsInRange_defaults, by simp [State.reset, ProfileStore.initial], by simp [State.reset, ProfileStore.initial],
      fun t => by simp [LadderLawful, State.reset, LimitMonitor.initial, LimitRecord.initial],
      by simp [State.reset, LimitMonitor.initial]⟩,
    ⟨by decide, by simp [State.reset, Management.initial]⟩,
    fun d h hd => by cases d <;> simp [lockOf, State.reset, Management.initial] at hd,
    fun m => by simp [ContextLawful, State.reset, Management.initial, LoadContext.initial],
    ⟨by decide, by decide, by simp [State.reset, Capture.initial], rfl⟩, reset_runtimeCleared, rfl, rfl⟩

/-! Commands that are not taken -/

theorem entryFree_false {s : State} (h : Config.queueCapacity ≤ s.mgmt.queue.length) : entryFree s = false := by
  simpa [entryFree] using h

/-- A command cell that finds the queue full is declined and counted (R12). -/
theorem takeCommand_declined {s : State} (hl : OnLoop s) (hq : Config.queueCapacity ≤ s.mgmt.queue.length) (code : Byte)
    (r : Request) (d : State → State × Reply) :
    takeCommand code r d s = { s with counters := counted 6 1 s.counters } := by
  simp only [takeCommand, (onLoop_iff s).2 hl, entryFree_false hq, if_true, Bool.false_eq_true, if_false, bump_eq, counterItem]

theorem takeReset_declined {s : State} (hl : OnLoop s) (hq : Config.queueCapacity ≤ s.mgmt.queue.length) (k : ResetKind)
    (r : Request) : takeReset k r s = { s with counters := counted 6 1 s.counters } := by
  simp only [takeReset, (onLoop_iff s).2 hl, entryFree_false hq, if_true, Bool.false_eq_true, if_false, bump_eq, counterItem]

theorem takeReset_offLoop {s : State} (h : ¬ OnLoop s) (k : ResetKind) (r : Request) : takeReset k r s = s := by
  simp [takeReset, onLoop_false h]

/-- Settles O12. -/
theorem fullQueueDeclines : Obligations.FullQueueDeclines := by
  intro i code r s hi
  rcases List.mem_cons.1 hi with rfl | hi
  · exact ⟨fun hl hq => congrArg _ (takeReset_declined hl hq .full r), fun hl => congrArg _ (takeReset_offLoop hl .full r)⟩
  rcases List.mem_cons.1 hi with rfl | hi
  · exact ⟨fun hl hq => congrArg _ (takeReset_declined hl hq .warm r), fun hl => congrArg _ (takeReset_offLoop hl .warm r)⟩
  obtain ⟨sent, decided, h⟩ := exec_commandRow hi s
  rw [h]
  exact ⟨fun hl hq => congrArg _ (takeCommand_declined hl hq ..), fun hl => congrArg _ (takeCommand_offLoop hl ..)⟩

/-! The answer of a taken command and its leases -/

theorem responseHead_fields : ∀ (node : BitVec 4) (m : ManagerId),
    let head : Byte := node ++ BitVec.ofNat 2 m ++ (2 : BitVec 2)
    head.getLsbD 1 = true ∧ head.getLsbD 0 = false ∧ head.extractLsb' 4 4 = node ∧ (head.extractLsb' 2 2).toFin = m := by
  decide

theorem tagByte_tag : ∀ t : Tag, ((0 : BitVec 1) ++ t).extractLsb' 0 7 = t := by
  decide

theorem answerStatus_fields (a : Answer) (flag : Bool) :
    let status : Byte := answerCode a ||| (if flag then 0x80 else 0)
    (status.extractLsb' 0 4).toNat = (answerCode a).toNat ∧ status.getLsbD 7 = flag := by
  cases a <;> cases flag <;> decide

/-- The fields of a response cell (R5, R150, 09 Table 9.7). -/
theorem responseCell_fields (node : BitVec 4) (code : Byte) (r : Request) (a : Reply) :
    let c := responseCell node code r a
    cellKind c = .response ∧ cellDestination c = node ∧ cellManager c = r.manager ∧ cellTag c = r.tag ∧
    (c.status.extractLsb' 0 4).toNat = (answerCode a.answer).toNat ∧ c.status.getLsbD 7 = a.itemFlag := by
  obtain ⟨h1, h0, hnode, hm⟩ := responseHead_fields node r.manager
  refine ⟨?_, hnode, hm, tagByte_tag r.tag, answerStatus_fields a.answer a.itemFlag⟩
  simp only [cellKind, responseCell, h1, h0]
theorem renewLease_of_holder {r : Request} {h : Option Holder} (hr : isHolder r h = true) :
    ∃ x, h = some x ∧ renewLease r h = some { x with lease := 0 } := by
  cases h with
  | none => simp [isHolder] at hr
  | some x => exact ⟨x, rfl, by simp [renewLease, hr]⟩

theorem renewLease_of_not {r : Request} {h : Option Holder} (hr : isHolder r h = false) : renewLease r h = h := by
  simp [renewLease, hr]

theorem renewLeases_lockOf (r : Request) (s : State) (d : Domain) :
    (Holds r d s → ∃ h, lockOf s.mgmt.locks d = some h ∧
      lockOf (renewLeases r s).mgmt.locks d = some { h with lease := 0 }) ∧
    (¬ Holds r d s → lockOf (renewLeases r s).mgmt.locks d = lockOf s.mgmt.locks d) := by
  rw [lockOf_renewLeases]
  exact ⟨fun h => renewLease_of_holder ((holds_iff r d s).2 h), fun h => renewLease_of_not (holds_false h)⟩

/-- Settles O33. -/
theorem takenCommandsAreAnsweredAndRenew : Obligations.TakenCommandsAreAnsweredAndRenew := by
  refine ⟨⟨fun code r a v => ?_, fun r s => ⟨rfl, renewLeases_lockOf r s⟩⟩, fun code r s u ht _ => ?_⟩
  · obtain ⟨hk, hd, hm, ht, hs, hf⟩ := responseCell_fields v.startUp.node code r a
    exact ⟨_, rfl, hk, hd, hm, ht, rfl, rfl, rfl, hs, hf⟩
  · exact congrArg _ (takeCommand_of_taken ht code decideUnknown)

end Sys2Proof.Machine
end

section
/-! PROOFS. The loop: SEARCHING, loss of lock, bad outbound frames and failed returns. -/

namespace Sys2Proof.Machine

/-! What an outbound frame with nothing in composition runs -/

theorem exec_outboundFrame_searching {s : State} (hq : Quiet s) (ha : s.ports.condition = .active)
    (hl : s.ports.lock = .searching) (f : Frame) (m : Composition) :
    exec (.outboundFrame f .current m) s = .next (searchOutbound f (forwardOutbound f s)) := by
  simp [exec, execOutboundFrame, finishPassage_quiet s hq, hq.1, ha, hl]

theorem exec_outboundFrame_bad {s : State} (hq : Quiet s) (hl : OnLoop s) {f : Frame} (hf : goodCheck f = false)
    (m : Composition) : exec (.outboundFrame f .current m) s = .next (badOutbound (forwardOutbound f s)) := by
  simp [exec, execOutboundFrame, finishPassage_quiet s hq, hq.1, hl.1, hl.2, hf]

theorem exec_outboundFrame_good {s : State} (hq : Quiet s) (hl : OnLoop s) {f : Frame} (hf : goodCheck f = true)
    (m : Composition) : exec (.outboundFrame f .current m) s = .next (lockedOutbound f m s) := by
  simp [exec, execOutboundFrame, finishPassage_quiet s hq, hq.1, hl.1, hl.2, hf]

/-! SEARCHING -/

theorem searchOutbound_bad {f : Frame} (hf : goodCheck f = false) (s : State) :
    searchOutbound f s = { s with ports := { s.ports with candidate := none }, counters := counted 0 1 s.counters } := by
  simp only [searchOutbound, hf, Bool.false_eq_true, if_false, bump_eq, counterItem]
  rfl

theorem searchOutbound_candidate {f : Frame} {s : State} (hf : goodCheck f = true)
    (hp : ∀ p, s.ports.candidate = some p → f.number ≠ p + 1) :
    searchOutbound f s = { s with ports := { s.ports with candidate := some f.number } } := by
  simp only [searchOutbound, hf, if_true]
  split
  · next p hc => rw [if_neg (hp p hc)]; rfl
  · rfl

theorem searchOutbound_acquires {f : Frame} {s : State} {p : Word} (hf : goodCheck f = true)
    (hc : s.ports.candidate = some p) (hp : f.number = p + 1) : searchOutbound f s = acquireLock f s := by
  simp only [searchOutbound, hf, hc, hp, if_true]

/-- Settles O4, event by event. -/
theorem searchingAcquiresLock : Obligations.SearchingAcquiresLock := by
  intro s hq ha hl
  have seen := exec_outboundFrame_searching hq ha hl
  refine ⟨fun f m hf => ?_, fun f m hf hp => ?_, fun f m p hf hc hp => ?_, ?_, fun f b => ?_⟩
  · rw [seen, searchOutbound_bad hf]; rfl
  · rw [seen, searchOutbound_candidate (s := forwardOutbound f s) hf hp]; rfl
  · rw [seen, searchOutbound_acquires (s := forwardOutbound f s) hf hc hp]; rfl
  · simp only [exec, execLineIdle, ha, hl]; rfl
  · have off : onLoop s = false := by simp [onLoop, hl]
    simp only [exec, execReturnFrame, hq.1, off, if_false, Bool.not_false, Bool.true_or, if_true]
    rfl

/-! Loss of lock -/

theorem exec_lineIdle_onLoop {s : State} (hl : OnLoop s) : exec .lineIdle s = .next (lostLock (endPassage s)) := by
  simp only [exec, execLineIdle, hl.1, hl.2, loseLock_eq]

theorem exec_lockLoss_onLoop {s : State} (hl : OnLoop s) : exec .lockLoss s = .next (lostLock (endPassage s)) := by
  simp only [exec, execLockLoss, (onLoop_iff s).2 hl, if_true, loseLock_eq]

/-- Settles O5: both commands end the passage and lose lock. -/
theorem lockIsLost : Obligations.LockIsLost := by
  intro s hl
  rw [exec_lineIdle_onLoop hl, exec_lockLoss_onLoop hl]
  refine ⟨fun hq => ?_, fun c hc => ?_⟩
  · rw [endPassage_quiet s hq]; exact ⟨rfl, rfl⟩
  · rw [endPassage_of_composing hc]; exact ⟨rfl, rfl⟩

/-! Bad outbound frames -/

theorem badOutbound_counts {s : State} (hn : s.ports.badRun + 1 < 8) :
    badOutbound s =
      { s with ports := { s.ports with badRun := s.ports.badRun + 1 }, counters := counted 0 1 s.counters } := by
  have : badOutbound s = bump .outbCheck 1 (s.setPorts { s.ports with badRun := s.ports.badRun + 1 }) :=
    if_neg (Nat.not_le.2 hn)
  rw [this]
  rfl

theorem badOutbound_loses {s : State} (hq : s.ports.composing = none) (hn : 8 ≤ s.ports.badRun + 1) :
    badOutbound s = lostLock { s with counters := counted 0 1 s.counters } := by
  have : badOutbound s = loseLock (bump .outbCheck 1 (s.setPorts { s.ports with badRun := s.ports.badRun + 1 })) :=
    if_pos hn
  rw [this, loseLock_eq, endPassage_quiet _ (by exact hq)]
  rfl

/-- Settles O6. -/
theorem badOutboundFrames : Obligations.BadOutboundFrames := by
  intro f m s hq ha hf
  refine ⟨fun hl => ?_, fun hl hn => ?_, fun hl hn => ?_⟩
  · rw [exec_outboundFrame_searching hq ha hl, searchOutbound_bad hf]; rfl
  · rw [exec_outboundFrame_bad hq ⟨ha, hl⟩ hf, badOutbound_counts (s := forwardOutbound f s) hn]; rfl
  · rw [exec_outboundFrame_bad hq ⟨ha, hl⟩ hf, badOutbound_loses (s := forwardOutbound f s) hq.2 hn]; rfl

/-! Failed returns -/

theorem failedReturn_awaited {c : CounterId} {f : Frame} {s : State} {p : LastGood} (ha : s.ports.frameMatch = .awaiting)
    (hp : s.ports.lastGood = some p) :
    failedReturn c f s =
      { s with
        ports := { s.ports with frameMatch := .spent, retOut := some f }
        intake := withHoles 1 p.number s.intake
        counters := counted 7 (attachedSlots s) (counted (counterItem c) 1 s.counters) } := by
  unfold failedReturn
  simp only []
  split
  · next _ hq =>
    obtain rfl : _ = p := by simpa [hp] using hq.symm
    rw [giveHole_eq]
    rfl
  · next h => exact absurd hp (h p ha)

theorem failedReturn_unawaited {c : CounterId} {f : Frame} {s : State} (ha : s.ports.frameMatch ≠ .awaiting) :
    failedReturn c f s =
      { s with ports := { s.ports with retOut := some f }, counters := counted (counterItem c) 1 s.counters } := by
  unfold failedReturn
  simp only []
  split
  · next h _ => exact absurd h ha
  · rfl

/-- A return that does not match is a failed one, counted by its check (R17). -/
theorem exec_returnFrame_failed {f : Frame} {s : State} (hp : s.startUp.phase ≠ .unpowered) (hl : OnLoop s)
    (hm : ¬ Matching f s) :
    ∃ c : CounterId, counterItem c = (if goodCheck f then 2 else 1) ∧
      exec (.returnFrame f .current) s = .next (failedReturn c f s) := by
  have on : onLoop s = true := (onLoop_iff s).2 hl
  cases hg : goodCheck f with
  | false => exact ⟨.retCheck, rfl, by simp [exec, execReturnFrame, receivedReturn, hp, on, hg]⟩
  | true =>
    have : matchesReturn s.ports f = false := by
      rw [Bool.eq_false_iff]
      intro h
      simp only [matchesReturn, Bool.and_eq_true, beq_iff_eq] at h
      exact hm ⟨hp, hl, hg, h.1, h.2⟩
    exact ⟨.retMismatch, rfl, by simp [exec, execReturnFrame, receivedReturn, hp, on, hg, this]⟩

/-- Settles O13. -/
theorem failedReturns : Obligations.FailedReturns := by
  intro f s hp hl hm
  obtain ⟨c, hc, h⟩ := exec_returnFrame_failed hp hl hm
  rw [h]
  refine ⟨fun p ha hg => ?_, fun ha => ?_⟩
  · rw [failedReturn_awaited ha hg, hc]
  · rw [failedReturn_unawaited ha, hc]

end Sys2Proof.Machine
end

section
/-! PROOFS. Power and resets. -/

namespace Sys2Proof.Machine

/-! The profile load -/

theorem endPersist_eq (p : ProfileStore) :
    endPersist p = if p.running.isSome then { p with condition := .torn, running := none } else p := rfl

@[simp] theorem endPersist_running (p : ProfileStore) : (endPersist p).running = none := by
  unfold endPersist
  split
  · rfl
  · next h => simpa using h

theorem goodImage_eq_some {p : ProfileStore} {im : ProfileImage} :
    goodImage p = some im ↔ p.condition = .good ∧ p.image = some im ∧ crc32 (profileBytes im) = p.crc := by
  unfold goodImage
  split
  · next x hc hi =>
    rw [hc, hi]
    split
    · next hx => simp only [Option.some.injEq, true_and]; exact ⟨fun h => ⟨h, h ▸ hx⟩, fun h => h.1⟩
    · next hx => simp only [reduceCtorEq, Option.some.injEq, true_and, false_iff]; rintro ⟨rfl, h⟩; exact hx h
  · next h =>
    simp only [reduceCtorEq, false_iff]
    rintro ⟨hc, hi, -⟩
    exact h im hc hi

/-- A store without a GOOD profile keeps BLANK and is otherwise TORN after the check (R176). -/
theorem checkedCondition_of_none {p : ProfileStore} (h : goodImage p = none) :
    checkedCondition p = if p.condition = .blank then .blank else .torn := by
  unfold checkedCondition
  cases hc : p.condition <;> simp [h]

/-! Power-up and FULL reset -/

theorem initial_lockOf (d : Domain) : lockOf Management.initial.locks d = none := by cases d <;> rfl

/-- A load whose store is GOOD gives the tables and the start mode. -/
theorem coldStart_of_good {u : StartUp} {s : State} {im : ProfileImage} (h : goodImage (endPersist s.profile) = some im) :
    coldStart u s =
      { blankPart u s with
        banks := { BankUnit.initial with bankA := im.bank, bankB := im.bank, generation := im.generation }
        slots := { SlotUnit.initial with map := im.slotMap, targets := im.targets }
        limit := { LimitMonitor.initial with params := im.params, mode := u.startMode.operating }
        alerts := { pending := 1, map := im.alertMap }
        profile := { endPersist s.profile with found := true } } := by
  have : goodImage (blankPart u s).profile = some im := h
  have raised : withPending (sourceNumber .restarted) { pending := 0, map := im.alertMap } = ⟨1, im.alertMap⟩ := by
    simp [withPending, sourceNumber]
  simp only [coldStart, profileLoad, this, raiseAlert_eq]
  rw [← raised]
  rfl

/-- A load without a GOOD profile leaves the defaults, OFF and PROFILE_ABSENT. -/
theorem coldStart_of_none {u : StartUp} {s : State} (h : goodImage (endPersist s.profile) = none) :
    coldStart u s =
      { blankPart u s with
        alerts := { pending := 0x4001, map := defaultAlertMap }
        profile := { endPersist s.profile with condition := checkedCondition (endPersist s.profile), found := false } } := by
  have : goodImage (blankPart u s).profile = none := h
  have raised : withPending (sourceNumber .restarted)
      (withPending (sourceNumber .profileAbsent) { pending := 0, map := defaultAlertMap }) = ⟨0x4001, defaultAlertMap⟩ := by
    simp [withPending, sourceNumber]
  simp only [coldStart, profileLoad, this, raiseAlert_eq]
  rw [← raised]
  rfl

/-- A power-up and a FULL reset leave the runtime state cleared, whatever the load finds. -/
theorem coldStart_runtimeCleared (u : StartUp) (s : State) : RuntimeCleared (coldStart u s) := by
  cases h : goodImage (endPersist s.profile) with
  | some im =>
    rw [coldStart_of_good h]
    simp [RuntimeCleared, blankPart, freshPorts, State.reset, LoopPorts.initial, SlotUnit.initial, SlotRecord.initial,
      Intake.initial, BankUnit.initial, Coupling.initial, TargetRecord.initial, LimitMonitor.initial, initial_lockOf]
    exact ⟨rfl, fun k => by simp [Management.initial, LoadContext.initial]⟩
  | none =>
    rw [coldStart_of_none h]
    simp [RuntimeCleared, blankPart, freshPorts, State.reset, LoopPorts.initial, SlotUnit.initial, SlotRecord.initial,
      Intake.initial, BankUnit.initial, Coupling.initial, TargetRecord.initial, LimitMonitor.initial, initial_lockOf]
    exact ⟨rfl, fun k => by simp [Management.initial, LoadContext.initial]⟩

theorem coldStart_profileLoaded (u : StartUp) (s : State) : ProfileLoaded (endPersist s.profile) (coldStart u s) := by
  cases h : goodImage (endPersist s.profile) with
  | some im =>
    obtain ⟨hc, hi, hx⟩ := goodImage_eq_some.1 h
    rw [coldStart_of_good h]
    refine ⟨rfl, rfl, rfl, fun u => by simp [LimitMonitor.initial, LimitRecord.initial], fun x _ hxi _ => ?_,
      fun hn => absurd hx (hn im hc hi)⟩
    obtain rfl : im = x := by simpa [hi] using hxi
    exact ⟨rfl, rfl, rfl, rfl, rfl, rfl, rfl, rfl, rfl, rfl⟩
  | none =>
    rw [coldStart_of_none h, checkedCondition_of_none h]
    refine ⟨rfl, rfl, rfl, fun u => by simp [blankPart, State.reset, LimitMonitor.initial, LimitRecord.initial],
      fun x hc hi hx => ?_, fun _ => ⟨rfl, rfl, rfl, fun u => ?_, rfl, fun n => ?_, rfl, rfl, rfl⟩⟩
    · rw [goodImage_eq_some.2 ⟨hc, hi, hx⟩] at h
      simp at h
    · refine ⟨by simp [blankPart, State.reset, SlotUnit.initial, identityMap], ?_⟩
      exact (BitVec.getLsbD_allOnes ..).trans (by simp)
    · simp [defaultAlertMap]

/-- Whether a profile has been found before does not matter to a load. -/
theorem ProfileLoaded.of_found {p : ProfileStore} {b : Bool} {t : State} (h : ProfileLoaded { p with found := b } t) :
    ProfileLoaded p t := h

/-- Loss of power ends a PERSIST, and the power-up behind it finds none to end. -/
theorem endPersist_unpower (s : State) : endPersist (unpower s).profile = { endPersist s.profile with found := false } := by
  have : (unpower s).profile.running = none := endPersist_running s.profile
  rw [endPersist_eq (unpower s).profile, this]
  rfl

theorem powerUpSequence_profileLoaded (x : Straps) (s : State) :
    ProfileLoaded (endPersist s.profile) (powerUpSequence x s) := coldStart_profileLoaded _ _

/-- Settles O50: power-up, RST_N rising on a part that waits, and the end of the load. -/
theorem powerUpRunsTheSequence : Obligations.PowerUpRunsTheSequence := by
  refine ⟨fun x s => ⟨?_, ?_, fun hp hr => ?_⟩, fun s hp => ?_⟩
  · have loaded := powerUpSequence_profileLoaded x (unpower s)
    rw [endPersist_unpower] at loaded
    exact ⟨powerUpSequence x (unpower s), rfl, coldStart_runtimeCleared _ _, loaded.of_found,
      by rw [powerUpSequence_ports]; rfl, coldStart_startUp _ _⟩
  · exact ⟨_, rfl, rfl, rfl, rfl, rfl⟩
  · refine ⟨powerUpSequence x (s.setStartUp { s.startUp with rstN := true }), ?_, coldStart_runtimeCleared _ _,
      coldStart_profileLoaded _ _, by rw [powerUpSequence_ports]; rfl, coldStart_startUp _ _⟩
    simp only [exec, execRstNRise, hr, hp, Bool.false_eq_true, if_false]
  · simp only [exec, execProfileLoadEnd, hp, if_true]
    rfl

/-! FULL resets -/

theorem fullReset_restarts {s t : State} (hp : t.profile = s.profile) (hu : t.startUp = s.startUp) :
    RuntimeCleared (fullReset t) ∧ ProfileLoaded (endPersist s.profile) (fullReset t) ∧
    (fullReset t).ports.condition = .transparent ∧
    (fullReset t).startUp = { s.startUp with phase := .loading, reason := .full } := by
  rw [← hp, ← hu]
  exact ⟨coldStart_runtimeCleared _ _, coldStart_profileLoaded _ _, by rw [fullReset_ports]; rfl, fullReset_startUp t⟩

/-- A RESET row that is taken begins the first RESET taken in the passage, or its own (R18, log 5). -/
theorem takeReset_taken {r : Request} {s u : State} (h : Taken r s u) (k : ResetKind) :
    takeReset k r s =
      beginReset (some ((passageReset s).getD k)) (reserveEntry (renewLeases r (closePassage s))) := by
  obtain ⟨hl, hq, -⟩ := h
  have : entryFree s = true := by simpa [entryFree] using hq
  simp only [takeReset, (onLoop_iff s).2 hl, this, if_true]

/-- A RESET row begins its own kind when no other kind was taken in the passage. -/
theorem passageReset_getD {s : State} {k : ResetKind} (h : ∀ c, s.ports.composing = some c → c.reset = none ∨ c.reset = some k) :
    (passageReset s).getD k = k := by
  unfold passageReset
  cases hc : s.ports.composing with
  | none => rfl
  | some c => rcases h c hc with hr | hr <;> simp [hr]

/-! WARM resets -/

/-- What a WARM reset with this reason keeps of s (R181 with R36, R71, R131, R145, R169). -/
def WarmKeeps (s : State) (reason : ResetReason) (t : State) : Prop :=
  RuntimeCleared t ∧ t.banks.bankA = s.banks.bankA ∧ t.banks.bankB = s.banks.bankB ∧ t.banks.liveId = s.banks.liveId ∧
  t.banks.generation = s.banks.generation ∧
  t.banks.standbyCondition = (if s.banks.engine = .resync then .torn else s.banks.standbyCondition) ∧
  t.slots.map = s.slots.map ∧ t.slots.targets = s.slots.targets ∧ t.limit.params = s.limit.params ∧
  t.limit.muteSet = s.limit.muteSet ∧
  (∀ u : Slot, t.limit.records[u] =
    { level := if s.limit.muteSet.getLsbD u then .muted else .normal, saturation := 0, recovery := 0 }) ∧
  t.limit.mode = (if s.profile.found then s.startUp.startMode.operating else .off) ∧ t.alerts.map = s.alerts.map ∧
  t.alerts.pending = 1 ∧
  t.profile = (if s.profile.running.isSome then { s.profile with condition := .torn, running := none } else s.profile) ∧
  t.startUp.node = s.startUp.node ∧ t.startUp.startMode = s.startUp.startMode ∧ t.startUp.reason = reason ∧
  t.startUp.rstN = true ∧ t.startUp.phase = s.startUp.phase

theorem warmActions_runtimeCleared (k : ResetReason) (c : PortCondition) (s : State) : RuntimeCleared (warmActions k c s) := by
  simp [RuntimeCleared, warmActions, freshPorts, raiseAlert, sourceNumber, LoopPorts.initial, SlotRecord.initial,
    Intake.initial, abandonOperation, Coupling.initial, TargetRecord.initial, LimitMonitor.initial, initial_lockOf]
  exact ⟨rfl, fun k => by simp [Management.initial, LoadContext.initial]⟩

/-- The WARM actions on a state with the tables, the profile and the start-up record of s keep them. -/
theorem warmActions_keeps {s t : State} (reason : ResetReason) (c : PortCondition) (hr : t.startUp.rstN = true)
    (hslots : t.slots = s.slots) (hbanks : t.banks = s.banks) (hlimit : t.limit = s.limit) (halerts : t.alerts.map = s.alerts.map)
    (hprofile : t.profile = s.profile) (hnode : t.startUp.node = s.startUp.node)
    (hmode : t.startUp.startMode = s.startUp.startMode) (hphase : t.startUp.phase = s.startUp.phase) :
    WarmKeeps s reason (warmActions reason c t) := by
  refine ⟨warmActions_runtimeCleared _ _ _, ?_⟩
  rw [← hslots, ← hbanks, ← hlimit, ← halerts, ← hprofile, ← hnode, ← hmode, ← hphase]
  refine ⟨rfl, rfl, rfl, rfl, rfl, rfl, rfl, rfl, rfl, fun u => ?_, rfl, rfl, ?_, rfl, rfl, rfl, rfl, hr, rfl⟩
  · simp only [warmActions, raiseAlert_limit, warmLevels, Fin.getElem_fin, Vector.getElem_ofFn]
    split <;> simp_all [mutedRecord, LimitRecord.initial]
  · simp [warmActions, raiseAlert, sourceNumber]

@[simp] theorem composeFrom_map (n : Nat) (f : Frame) (s : State) : (composeFrom n f s).2.alerts.map = s.alerts.map :=
  composeFrom_preserves (fun a => a.2.alerts.map = s.alerts.map)
    (fun pos c u h => by
      rcases composeCell_state pos c u with e | e <;> rw [e]
      · exact h
      · exact h) n f s rfl

/-- Closing a passage leaves the Alert Map. -/
theorem closePassage_map (s : State) : (closePassage s).alerts.map = s.alerts.map := by
  unfold closePassage
  split <;> simp

/-- Settles O51. -/
theorem resetsRestartAndKeep : Obligations.ResetsRestartAndKeep := by
  refine ⟨⟨fun s => ⟨⟨fullReset_restarts rfl rfl, beginReset_outbOut _ _⟩, fun r u ht _ hc => ?_⟩, fun _ => rfl,
    fun r c s hc hk => ?_⟩, fun s => ⟨fun hr => ?_, fun r u ht hr _ hc => ?_, fun x hr hp => ?_, fun x hr hp => ?_⟩⟩
  · refine ⟨takeReset .full r s, rfl, ?_⟩
    rw [takeReset_taken ht, passageReset_getD fun c h => ?_]
    · exact fullReset_restarts (by simp) (by simp)
    · match hk : c.reset with
      | none => exact .inl rfl
      | some .full => exact .inr rfl
      | some .warm => exact absurd hk (hc c h)
  · have : passageReset s = c.reset := by simp [passageReset, hc]
    obtain ⟨k, hk⟩ := Option.isSome_iff_exists.1 hk
    simp only [exec, execResetFull, execResetWarm, takeReset, this, hk, Option.getD_some]
  · exact ⟨warmActions_keeps _ _ hr rfl rfl rfl rfl rfl rfl rfl rfl, rfl, beginReset_outbOut _ _⟩
  · refine ⟨takeReset .warm r s, rfl, ?_⟩
    rw [takeReset_taken ht, passageReset_getD fun c h => ?_]
    · exact ⟨warmActions_keeps _ _ (by simpa using hr) (by simp) (by simp) (by simp) (closePassage_map s) (by simp) (by simp)
        (by simp) (by simp), rfl⟩
    · match hk : c.reset with
      | none => exact .inl rfl
      | some .warm => exact .inr rfl
      | some .full => exact absurd hk (hc c h)
  · refine ⟨warmActions .warmLine .active (s.setStartUp { s.startUp with rstN := true }), ?_,
      warmActions_keeps _ _ rfl rfl rfl rfl rfl rfl rfl rfl rfl, rfl⟩
    simp only [exec, execRstNRise, hr, hp, Bool.false_eq_true, if_false]
  · refine ⟨warmActions .warmLine .transparent (s.setStartUp { s.startUp with rstN := true }), ?_,
      warmActions_keeps _ _ rfl rfl rfl rfl rfl rfl rfl rfl rfl, rfl⟩
    simp only [exec, execRstNRise, hr, hp, Bool.false_eq_true, if_false]

/-! The reset line falls, and power is lost -/

/-- Settles O52. -/
theorem resetLineFallsAndPowerIsLost : Obligations.ResetLineFallsAndPowerIsLost := by
  refine ⟨fun s hr => ?_, fun s => ⟨unpower s, rfl, rfl, rfl, ?_⟩⟩
  · simp only [exec, execRstNFall, hr, if_true]
    cases hc : s.ports.composing with
    | none => rw [endPassage_quiet s hc]; rfl
    | some c => rw [endPassage_of_composing hc]; rfl
  · simp only [unpower, endPersist]
    split <;> simp_all

end Sys2Proof.Machine
end

section
/-! SUPPORT. What commands do does not look at the ports: a decision, a cell of the command area, a cell composed. -/

namespace Sys2Proof.Machine

/-! Decisions -/

/-- A decision that does not look at the ports and leaves them. -/
def IgnoresPorts (d : State → State × Reply) : Prop :=
  ∀ (s : State) (p : LoopPorts), d (s.setPorts p) = ((d s).1.setPorts p, (d s).2)

/-- Two choices on one question whose branches a map takes to each other. -/
theorem ite_eq_map {α β : Type} (φ : α → β) {c c' : Prop} [Decidable c] [Decidable c'] {a b : α} {a' b' : β} (hc : c' ↔ c)
    (ha : a' = φ a) (hb : b' = φ b) : (if c' then a' else b') = φ (if c then a else b) := by
  by_cases h : c
  · rw [if_pos (hc.2 h), if_pos h, ha]
  · rw [if_neg (fun h' => h (hc.1 h')), if_neg h, hb]

/-- A choice on what the ports do not change, of two branches that leave the ports to the outside. -/
theorem ite_setPorts {c c' : Prop} [Decidable c] [Decidable c'] {a b a' b' : State × Reply} {p : LoopPorts} (hc : c' ↔ c)
    (ha : a' = (a.1.setPorts p, a.2)) (hb : b' = (b.1.setPorts p, b.2)) :
    (if c' then a' else b') = ((if c then a else b).1.setPorts p, (if c then a else b).2) :=
  ite_eq_map (fun x : State × Reply => (x.1.setPorts p, x.2)) hc ha hb

theorem decideStatus_ignoresPorts : IgnoresPorts decideStatus := fun _ _ => rfl

theorem decideClaim_ignoresPorts (r : Request) : IgnoresPorts (decideClaim r) := by
  intro s p
  unfold decideClaim
  cases domainOfCode r.payload[0] with
  | none => rfl
  | some d =>
    refine ite_setPorts Iff.rfl rfl ?_
    simp only [State.mgmt_setPorts]
    cases lockOf s.mgmt.locks d with
    | none => rfl
    | some h => exact ite_setPorts Iff.rfl rfl rfl

theorem decideRelease_ignoresPorts (r : Request) : IgnoresPorts (decideRelease r) := by
  intro s p
  unfold decideRelease
  cases domainOfCode r.payload[0] with
  | none => rfl
  | some d => exact ite_setPorts Iff.rfl rfl rfl

theorem decideSelect_ignoresPorts (r : Request) : IgnoresPorts (decideSelect r) := by
  intro s p
  unfold decideSelect
  cases tableOfCode r.payload[0] with
  | none => rfl
  | some t =>
    refine ite_setPorts Iff.rfl rfl ?_
    cases modeOfCode r.payload[1] with
    | none => rfl
    | some m => exact ite_setPorts Iff.rfl rfl rfl

theorem decideCommit_ignoresPorts (r : Request) : IgnoresPorts (decideCommit r) := fun _ _ =>
  ite_setPorts Iff.rfl rfl (ite_setPorts Iff.rfl rfl (ite_setPorts Iff.rfl rfl (ite_setPorts Iff.rfl rfl rfl)))

theorem decideResync_ignoresPorts (r : Request) : IgnoresPorts (decideResync r) := fun _ _ =>
  ite_setPorts Iff.rfl rfl (ite_setPorts Iff.rfl rfl rfl)

theorem decideClearStandby_ignoresPorts (r : Request) : IgnoresPorts (decideClearStandby r) := fun _ _ =>
  ite_setPorts Iff.rfl rfl (ite_setPorts Iff.rfl rfl rfl)

theorem decideMode_ignoresPorts (r : Request) : IgnoresPorts (decideMode r) := by
  intro s p
  refine ite_setPorts Iff.rfl rfl ?_
  cases chosenOfCode r.payload[0] with
  | none => rfl
  | some m => exact ite_setPorts Iff.rfl rfl rfl

theorem decideArmCapture_ignoresPorts (r : Request) : IgnoresPorts (decideArmCapture r) := by
  intro s p
  refine ite_setPorts Iff.rfl rfl ?_
  cases captureArguments r.payload <;> rfl

theorem decidePersist_ignoresPorts (r : Request) : IgnoresPorts (decidePersist r) := fun _ _ =>
  ite_setPorts Iff.rfl rfl (ite_setPorts Iff.rfl rfl rfl)

theorem decideAckAlert_ignoresPorts (r : Request) : IgnoresPorts (decideAckAlert r) := fun _ _ => rfl

theorem readItem_setPorts (t : Table) (n : Nat) (s : State) (p : LoopPorts) : readItem t n (s.setPorts p) = readItem t n s := by
  cases t <;> rfl

theorem answerRead_ignoresPorts (t : Table) (r : Request) : IgnoresPorts (answerRead t r) := by
  intro s p
  have hc : contextOf r (s.setPorts p) = contextOf r s := rfl
  simp only [answerRead, hc, readItem_setPorts]
  cases readItem t (contextOf r s).index s <;> rfl

theorem readCounter_ignoresPorts (r : Request) : IgnoresPorts (readCounter r) := by
  intro s p
  unfold readCounter
  rw [answerRead_ignoresPorts]
  rfl

theorem decideRead_ignoresPorts (r : Request) : IgnoresPorts (decideRead r) := by
  intro s p
  have hc : contextOf r (s.setPorts p) = contextOf r s := rfl
  unfold decideRead
  simp only [hc]
  split
  · split
    · exact readCounter_ignoresPorts r s p
    all_goals exact answerRead_ignoresPorts _ r s p
  · rfl

theorem standbyWrite_ignoresPorts (r : Request) (t : Table) (edit : Nat → Bank → Option Bank) :
    IgnoresPorts (standbyWrite r t edit) := by
  intro s p
  refine ite_setPorts Iff.rfl rfl (ite_setPorts Iff.rfl rfl ?_)
  change (match edit (contextOf r s).index (standbyBank s.banks) with | none => _ | some b => _) = _
  cases edit (contextOf r s).index (standbyBank s.banks) <;> rfl

theorem configWrite_ignoresPorts (r : Request) (t : Table) (edit : Nat → State → Option State)
    (h : ∀ i s p, edit i (s.setPorts p) = (edit i s).map fun u => u.setPorts p) : IgnoresPorts (configWrite r t edit) := by
  intro s p
  have hc : contextOf r (s.setPorts p) = contextOf r s := rfl
  unfold configWrite
  simp only [hc, h]
  refine ite_setPorts Iff.rfl rfl ?_
  cases edit (contextOf r s).index s <;> rfl

@[simp] theorem detachSlot_setPorts (u : Slot) (s : State) (p : LoopPorts) :
    detachSlot u (s.setPorts p) = (detachSlot u s).setPorts p := rfl

theorem remap_setPorts (u : Slot) (c : Option (Fin 64)) (s : State) (p : LoopPorts) :
    remap u c (s.setPorts p) = (remap u c s).setPorts p := by
  unfold remap
  exact ite_eq_map (fun u : State => u.setPorts p) Iff.rfl rfl rfl

theorem editSlotmap_setPorts (q : Vector Byte 8) (i : Nat) (s : State) (p : LoopPorts) :
    editSlotmap q i (s.setPorts p) = (editSlotmap q i s).map fun u => u.setPorts p := by
  unfold editSlotmap
  simp only [State.slots_setPorts, remap_setPorts]
  cases cellOfByte q[0] with
  | none => rfl
  | some c =>
    simp only []
    by_cases hm : s.slots.map[Fin.ofNat 64 i] = c
    · rw [if_pos hm, if_pos hm]; rfl
    · rw [if_neg hm, if_neg hm]
      cases cellTaken s.slots.map (Fin.ofNat 64 i) c <;> rfl

theorem editLimits_setPorts (q : Vector Byte 8) (i : Nat) (s : State) (p : LoopPorts) :
    editLimits q i (s.setPorts p) = (editLimits q i s).map fun u => u.setPorts p := by
  unfold editLimits
  simp only []
  cases limitInRange i (payloadWord q 0) <;> rfl

theorem editAlertmap_setPorts (q : Vector Byte 8) (i : Nat) (s : State) (p : LoopPorts) :
    editAlertmap q i (s.setPorts p) = (editAlertmap q i s).map fun u => u.setPorts p := by
  unfold editAlertmap
  cases routeOfCode q[1] <;> rfl

theorem writeTemplate_ignoresPorts (r : Request) : IgnoresPorts (writeTemplate r) := fun s =>
  standbyWrite_ignoresPorts r .standbyTemplate (templateEdit (combineBy (contextOf r s).mode) r.payload) s

theorem writeTargets_ignoresPorts (r : Request) : IgnoresPorts (writeTargets r) := fun s =>
  configWrite_ignoresPorts r .targets (fun _ u => some (editTargets (contextOf r s).mode r.payload u)) (fun _ _ _ => rfl) s

theorem writeMutes_ignoresPorts (r : Request) : IgnoresPorts (writeMutes r) := fun s =>
  configWrite_ignoresPorts r .mutes (fun _ u => some (editMutes (contextOf r s).mode r.payload u)) (fun _ _ _ => rfl) s

theorem decideData_ignoresPorts (r : Request) : IgnoresPorts (decideData r) := by
  intro s p
  have hc : contextOf r (s.setPorts p) = contextOf r s := rfl
  unfold decideData
  simp only [hc]
  split
  · split
    · exact ite_setPorts Iff.rfl (standbyWrite_ignoresPorts _ _ _ _ _) (standbyWrite_ignoresPorts _ _ _ _ _)
    · exact ite_setPorts Iff.rfl (standbyWrite_ignoresPorts _ _ _ _ _) (standbyWrite_ignoresPorts _ _ _ _ _)
    · exact writeTemplate_ignoresPorts r s p
    · exact configWrite_ignoresPorts _ _ _ (editSlotmap_setPorts r.payload) s p
    · exact writeTargets_ignoresPorts r s p
    · exact writeMutes_ignoresPorts r s p
    · exact configWrite_ignoresPorts _ _ _ (editLimits_setPorts r.payload) s p
    · exact configWrite_ignoresPorts _ _ _ (editAlertmap_setPorts r.payload) s p
    all_goals rfl
  · rfl

theorem decideCommand_ignoresPorts (code : Byte) (r : Request) : IgnoresPorts (decideCommand code r) := by
  intro s p
  unfold decideCommand
  split
  · exact decideStatus_ignoresPorts s p
  · exact decideClaim_ignoresPorts r s p
  · exact decideRelease_ignoresPorts r s p
  · exact decideSelect_ignoresPorts r s p
  · exact decideData_ignoresPorts r s p
  · exact decideRead_ignoresPorts r s p
  · exact decideCommit_ignoresPorts r s p
  · exact decideResync_ignoresPorts r s p
  · exact decideClearStandby_ignoresPorts r s p
  · exact decideMode_ignoresPorts r s p
  · exact decideArmCapture_ignoresPorts r s p
  · exact decidePersist_ignoresPorts r s p
  · exact decideAckAlert_ignoresPorts r s p
  · rfl

theorem answerCommand_setPorts (code : Byte) (r : Request) {d : State → State × Reply} (h : IgnoresPorts d) (s : State)
    (p : LoopPorts) : answerCommand code r d (s.setPorts p) = (answerCommand code r d s).setPorts p := by
  have hr : renewLeases r (s.setPorts p) = (renewLeases r s).setPorts p := rfl
  unfold answerCommand
  rw [hr, h]
  rfl

/-! The command area, composition and resets -/

/-- A walk over the command area with other ports under it. -/
def AreaStep.setPorts (a : AreaStep) (p : LoopPorts) : AreaStep := { a with state := a.state.setPorts p }

theorem areaCell_setPorts (a : AreaStep) (c : MgmtCell) (p : LoopPorts) :
    areaCell (a.setPorts p) c = ((areaCell a c).1.setPorts p, (areaCell a c).2) := by
  refine ite_eq_map (fun x : AreaStep × MgmtCell => (x.1.setPorts p, x.2)) Iff.rfl rfl
    (ite_eq_map (fun x : AreaStep × MgmtCell => (x.1.setPorts p, x.2)) Iff.rfl rfl
      (ite_eq_map (fun x : AreaStep × MgmtCell => (x.1.setPorts p, x.2)) Iff.rfl rfl ?_))
  rw [AreaStep.setPorts, answerCommand_setPorts _ _ (decideCommand_ignoresPorts _ _)]
  rfl

theorem areaCellWithin_setPorts (lo hi : Nat) (cells : Vector MgmtCell 4) (a : AreaStep) (i : Fin 4) (p : LoopPorts) :
    areaCellWithin lo hi cells (a.setPorts p) i =
      ((areaCellWithin lo hi cells a i).1.setPorts p, (areaCellWithin lo hi cells a i).2) :=
  ite_eq_map (fun x : AreaStep × MgmtCell => (x.1.setPorts p, x.2)) Iff.rfl (areaCell_setPorts a _ p) rfl

theorem takeCells_setPorts (lo hi : Nat) (cells : Vector MgmtCell 4) (a : AreaStep) (p : LoopPorts) :
    takeCells lo hi cells (a.setPorts p) = ((takeCells lo hi cells a).1.setPorts p, (takeCells lo hi cells a).2) := by
  simp only [takeCells, areaCellWithin_setPorts]

theorem selectOutput_setPorts (s : State) (n : Word) (u : Slot) (p : LoopPorts) :
    selectOutput (s.setPorts p) n u = selectOutput s n u := rfl

theorem recordMiss_setPorts (b : Bool) (s : State) (p : LoopPorts) :
    recordMiss b (s.setPorts p) = (recordMiss b s).setPorts p := by cases b <;> rfl

theorem composeCell_setPorts (pos : Fin 64) (f : Frame) (s : State) (p : LoopPorts) :
    composeCell pos f (s.setPorts p) = ((composeCell pos f s).1, (composeCell pos f s).2.setPorts p) := by
  refine ite_eq_map (fun x : Frame × State => (x.1, x.2.setPorts p)) Iff.rfl ?_ rfl
  simp only [State.slots_setPorts, selectOutput_setPorts, recordMiss_setPorts]
  cases slotAt s.slots.map pos <;> rfl

/-- What a map on frames and states does to each composed cell, it does to the composition of a frame. -/
theorem composeFrom_map_of_cell {φ : Frame × State → Frame × State}
    (h : ∀ pos x, composeCell pos (φ x).1 (φ x).2 = φ (composeCell pos x.1 x.2)) (n : Nat) (x : Frame × State) :
    composeFrom n (φ x).1 (φ x).2 = φ (composeFrom n x.1 x.2) :=
  List.foldl_hom φ fun x (pos : Fin 64) => by
    by_cases hn : n ≤ pos.val
    · rw [if_pos hn, if_pos hn, h]
    · rw [if_neg hn, if_neg hn]

theorem composeFrom_setPorts (n : Nat) (f : Frame) (s : State) (p : LoopPorts) :
    composeFrom n f (s.setPorts p) = ((composeFrom n f s).1, (composeFrom n f s).2.setPorts p) :=
  composeFrom_map_of_cell (φ := fun x => (x.1, x.2.setPorts p)) (fun pos x => composeCell_setPorts pos x.1 x.2 p) n (f, s)

theorem coldStart_setPorts (u : StartUp) (s : State) (p : LoopPorts) :
    coldStart u (s.setPorts p) = (coldStart u s).setPorts (freshPorts .transparent p) := by
  cases h : goodImage (endPersist s.profile) with
  | some im => rw [coldStart_of_good h, coldStart_of_good (s := s.setPorts p) h]; rfl
  | none => rw [coldStart_of_none h, coldStart_of_none (s := s.setPorts p) h]; rfl

/-- A state with another frame on the outbound output. -/
def withOutput (o : Option Frame) (s : State) : State := s.setPorts { s.ports with outbOut := o }

/-- A RESET leaves what was forwarded last on the output, and nothing else of the ports (R20). -/
theorem beginReset_withOutput (k : Option ResetKind) (s : State) (o : Option Frame) :
    beginReset k (withOutput o s) = withOutput o (beginReset k s) := by
  match k with
  | none => rfl
  | some .warm => rfl
  | some .full =>
    change fullReset (withOutput o s) = withOutput o (fullReset s)
    have : fullReset (withOutput o s) = (fullReset s).setPorts (freshPorts .transparent (withOutput o s).ports) :=
      coldStart_setPorts _ s _
    rw [this]
    simp only [withOutput, fullReset_ports]
    rfl

/-- Where the ports stand before a reset does not matter to it but for the outputs. -/
theorem beginReset_setPorts {k : ResetKind} {s : State} {p q : LoopPorts} (ho : p.outbOut = q.outbOut)
    (hr : p.retOut = q.retOut) : beginReset (some k) (s.setPorts p) = beginReset (some k) (s.setPorts q) := by
  have fresh : ∀ c, freshPorts c p = freshPorts c q := fun c => by rw [freshPorts, freshPorts, ho, hr]
  cases k with
  | full =>
    change coldStart _ (s.setPorts p) = coldStart _ (s.setPorts q)
    rw [coldStart_setPorts, coldStart_setPorts, fresh]
    rfl
  | warm =>
    change warmActions _ _ (s.setPorts p) = warmActions _ _ (s.setPorts q)
    simp only [warmActions, State.ports_setPorts, fresh]
    rfl

end Sys2Proof.Machine
end

section
/-! SUPPORT. The composition of a frame, cell by cell, and the walk over its command area. -/

namespace Sys2Proof.Machine

/-! The slot in a cell -/

/-- A map that gives no cell twice has the one slot in a cell (R21). -/
theorem slotAt_eq_some {map : Vector (Option (Fin 64)) 64} (hm : MapInjective map) {pos : Fin 64} {u : Slot} :
    slotAt map pos = some u ↔ map[u] = some pos := by
  constructor
  · intro h
    simpa using List.find?_some h
  · intro h
    obtain ⟨v, hv⟩ : ∃ v, slotAt map pos = some v := by
      rw [← Option.isSome_iff_exists, slotAt, List.find?_isSome]
      exact ⟨u, List.mem_finRange u, by simpa using h⟩
    have hvm : map[v] = some pos := by simpa using List.find?_some hv
    rw [hv, hm v u pos hvm h]

theorem slotAt_eq_none {map : Vector (Option (Fin 64)) 64} {pos : Fin 64} :
    slotAt map pos = none ↔ ∀ u : Slot, map[u] ≠ some pos := by
  simp [slotAt]

/-! One cell -/

theorem composeCell_of_unmapped {pos : Fin 64} {f : Frame} {s : State} (h : slotAt s.slots.map pos = none) :
    composeCell pos f s = (f, s) := by
  simp only [composeCell, h, ite_self]

theorem composeCell_of_unused {pos : Fin 64} {f : Frame} {s : State} (h : f.used.toNat ≤ pos.val) :
    composeCell pos f s = (f, s) := if_neg (Nat.not_lt.2 h)

theorem composeCell_of_mapped {pos : Fin 64} {f : Frame} {s : State} {u : Slot} (hu : pos.val < f.used.toNat)
    (h : slotAt s.slots.map pos = some u) :
    composeCell pos f s =
      ({ f with
          cells := f.cells.set pos
            (writeOutbound f.cells[pos] (selectOutput s f.number u).correction (selectOutput s f.number u).status) },
        recordMiss (selectOutput s f.number u).miss s) := by
  simp only [composeCell, hu, if_true, h]

/-- Composing a cell writes that cell of the frame alone. -/
theorem composeCell_frame (pos : Fin 64) (f : Frame) (s : State) :
    (composeCell pos f s).1 = { f with cells := f.cells.set pos (composeCell pos f s).1.cells[pos] } := by
  by_cases hu : pos.val < f.used.toNat
  · cases h : slotAt s.slots.map pos with
    | none => rw [composeCell_of_unmapped h]; simp
    | some u => rw [composeCell_of_mapped hu h]; simp
  · rw [composeCell_of_unused (Nat.not_lt.1 hu)]; simp

/-- The selection does not look at counters and pending alerts, which a deadline miss changes. -/
theorem selectOutput_composeCell (pos : Fin 64) (f : Frame) (s : State) (n : Word) (u : Slot) :
    selectOutput (composeCell pos f s).2 n u = selectOutput s n u := by
  unfold selectOutput
  simp only [composeCell_coupling, composeCell_slots, composeCell_limit]

/-- A cell is composed to the same whether another one was composed before it or not. -/
theorem composeCell_cells_of_ne {p q : Fin 64} (h : p ≠ q) (f : Frame) (s : State) :
    (composeCell q (composeCell p f s).1 (composeCell p f s).2).1.cells[q] = (composeCell q f s).1.cells[q] := by
  have hcell : (composeCell p f s).1.cells[q] = f.cells[q] := by
    rw [composeCell_frame]
    simp [Fin.val_ne_of_ne h]
  have hnumber : (composeCell p f s).1.number = f.number := by rw [composeCell_frame]
  by_cases hu : q.val < f.used.toNat
  · cases hm : slotAt s.slots.map q with
    | none => rw [composeCell_of_unmapped hm, composeCell_of_unmapped (by simpa using hm), hcell]
    | some u =>
      rw [composeCell_of_mapped hu hm, composeCell_of_mapped (u := u) (by rwa [composeCell_used]) (by simpa using hm),
        hnumber, hcell, selectOutput_composeCell]
      simp
  · have hu' := Nat.not_lt.1 hu
    rw [composeCell_of_unused hu', composeCell_of_unused (by rwa [composeCell_used]), hcell]

/-! The cells from a position on -/

theorem filter_finRange_le (n : Nat) :
    (List.finRange 64).filter (fun pos => decide (n ≤ pos.val)) = (List.finRange 64).drop n := by
  conv_lhs => rw [← List.take_append_drop n (List.finRange 64)]
  have front : ((List.finRange 64).take n).filter (fun pos => decide (n ≤ pos.val)) = [] := by
    rw [List.filter_eq_nil_iff]
    intro pos hpos
    obtain ⟨i, hi, rfl⟩ := List.mem_take_iff_getElem.1 hpos
    simp only [List.getElem_finRange, Fin.val_cast, decide_eq_true_eq]
    omega
  have back : ((List.finRange 64).drop n).filter (fun pos => decide (n ≤ pos.val)) = (List.finRange 64).drop n := by
    rw [List.filter_eq_self]
    intro pos hpos
    obtain ⟨i, hi, rfl⟩ := List.mem_drop_iff_getElem.1 hpos
    simp
  rw [List.filter_append, front, back, List.nil_append]

theorem composeFrom_eq_foldl (n : Nat) (f : Frame) (s : State) :
    composeFrom n f s = ((List.finRange 64).drop n).foldl (fun a pos => composeCell pos a.1 a.2) (f, s) := by
  rw [← filter_finRange_le, List.foldl_filter]
  simp only [decide_eq_true_eq]
  rfl

/-- The cells from a position on are the cell there and those behind it. -/
theorem composeFrom_cell (pos : Fin 64) (f : Frame) (s : State) :
    composeFrom pos.val f s = composeFrom (pos.val + 1) (composeCell pos f s).1 (composeCell pos f s).2 := by
  rw [composeFrom_eq_foldl, composeFrom_eq_foldl, List.drop_eq_getElem_cons (by simp)]
  simp

theorem composeFrom_of_used_le {n : Nat} {f : Frame} (h : f.used.toNat ≤ n) (s : State) : composeFrom n f s = (f, s) := by
  refine List.foldl_fixed' (fun pos => ?_) _
  by_cases hn : n ≤ pos.val
  · rw [if_pos hn, composeCell_of_unused (h.trans hn)]
  · rw [if_neg hn]

theorem composeFrom_of_le {n : Nat} (h : 64 ≤ n) (f : Frame) (s : State) : composeFrom n f s = (f, s) := by
  rw [composeFrom_eq_foldl, List.drop_of_length_le (by simpa using h)]
  rfl

/-- A composed frame: the cells from a position on composed, every other cell and field as received (R10). -/
theorem composeFrom_cells (n : Nat) (f : Frame) (s : State) (pos : Fin 64) :
    (composeFrom n f s).1.cells[pos] = if n ≤ pos.val then (composeCell pos f s).1.cells[pos] else f.cells[pos] := by
  by_cases hn : n < 64
  · have rest := composeFrom_cells (n + 1) (composeCell ⟨n, hn⟩ f s).1 (composeCell ⟨n, hn⟩ f s).2 pos
    rw [composeFrom_cell ⟨n, hn⟩, rest]
    by_cases hp : n = pos.val
    · subst hp
      simp
    · have hne : (⟨n, hn⟩ : Fin 64) ≠ pos := fun h => hp (Fin.val_eq_of_eq h)
      by_cases hle : n + 1 ≤ pos.val
      · rw [if_pos hle, if_pos (by omega), composeCell_cells_of_ne hne]
      · rw [if_neg hle, if_neg (by omega), composeCell_frame]
        simp [hp]
  · rw [composeFrom_of_le (by omega), if_neg (by have := pos.isLt; omega)]
termination_by 64 - n

theorem composeFrom_frame (n : Nat) (f : Frame) (s : State) :
    (composeFrom n f s).1 = { f with cells := (composeFrom n f s).1.cells } :=
  composeFrom_preserves (fun x => x.1 = { f with cells := x.1.cells })
    (fun pos g u h => by
      have hg : g = { f with cells := g.cells } := h
      rw [composeCell_frame, hg]) n f s rfl

/-- Commands and check of a frame go through its composition. -/
theorem composeFrom_withArea (n : Nat) (f : Frame) (s : State) (cells : Vector MgmtCell 4) (x : BitVec 32) :
    composeFrom n { f with commands := cells, check := x } s =
      ({ (composeFrom n f s).1 with commands := cells, check := x }, (composeFrom n f s).2) := by
  refine composeFrom_map_of_cell (φ := fun a => ({ a.1 with commands := cells, check := x }, a.2)) (fun pos a => ?_) n (f, s)
  obtain ⟨g, u⟩ := a
  by_cases hu : pos.val < g.used.toNat
  · cases hm : slotAt u.slots.map pos with
    | none => rw [composeCell_of_unmapped hm, composeCell_of_unmapped hm]
    | some v => rw [composeCell_of_mapped hu hm, composeCell_of_mapped (by exact hu) hm]
  · rw [composeCell_of_unused (Nat.not_lt.1 hu), composeCell_of_unused (by exact Nat.not_lt.1 hu)]

end Sys2Proof.Machine
end

section
/-! SUPPORT. The walk over the command area of a frame, cell by cell (R12). -/

namespace Sys2Proof.Machine

/-! One cell -/

/-- Behind a RESET a command cell passes unchanged (R12). -/
theorem areaCell_of_reset {a : AreaStep} (h : a.reset.isSome = true) (c : MgmtCell) : areaCell a c = (a, c) := by
  simp only [areaCell, h, Bool.true_or, if_true]

/-- A command cell that is not addressed to the part passes unchanged (R12). -/
theorem areaCell_of_unaddressed {a : AreaStep} {c : MgmtCell} (h : addressedTo a.state.startUp.node c = false) :
    areaCell a c = (a, c) := by
  simp only [areaCell, h, Bool.not_false, Bool.or_true, if_true]

theorem emptyCell_unaddressed (node : BitVec 4) : addressedTo node emptyCell = false := rfl

section
variable {s : State} {c : MgmtCell} (hc : addressedTo s.startUp.node c = true)
include hc

/-- A command cell that finds the queue full is declined (R12). -/
theorem areaCell_declined (hq : Config.queueCapacity ≤ s.mgmt.queue.length) :
    areaCell { state := s, reset := none } c =
      ({ state := { s with counters := counted 6 1 s.counters }, reset := none }, declineCell c) := by
  simp only [areaCell, hc, entryFree_false hq, Option.isSome_none, Bool.not_true, Bool.or_self, Bool.false_eq_true, if_false,
    Bool.not_false, if_true, bump_eq, counterItem]

/-- A RESET cell that is taken reserves an entry (R12, R159). -/
theorem areaCell_reset (hq : ¬ Config.queueCapacity ≤ s.mgmt.queue.length) (h : c.code = 14) :
    areaCell { state := s, reset := none } c =
      ({ state := reserveEntry (renewLeases (cellRequest c) s)
         reset := some (if asksFull (cellRequest c) then .full else .warm) }, takenCell c) := by
  have : entryFree s = true := by simpa [entryFree] using hq
  simp only [areaCell, hc, this, Option.isSome_none, Bool.not_true, Bool.or_self, Bool.false_eq_true, if_false, h, if_true]

/-- Any other command cell that is taken is decided and answered (R12, R148). -/
theorem areaCell_answered (hq : ¬ Config.queueCapacity ≤ s.mgmt.queue.length) (h : c.code ≠ 14) :
    areaCell { state := s, reset := none } c =
      ({ state := answerCommand c.code (cellRequest c) (decideCommand c.code (cellRequest c)) s, reset := none },
        takenCell c) := by
  have : entryFree s = true := by simpa [entryFree] using hq
  simp only [areaCell, hc, this, Option.isSome_none, Bool.not_true, Bool.or_self, Bool.false_eq_true, if_false, h]

end

/-- A cell that is no RESET for the part leaves a walk without a RESET taken. -/
theorem areaCell_reset_none {a : AreaStep} {c : MgmtCell} (ha : a.reset = none)
    (hc : addressedTo a.state.startUp.node c = true → c.code ≠ 14) : (areaCell a c).1.reset = none := by
  obtain ⟨s, k⟩ := a
  obtain rfl : k = none := ha
  cases had : addressedTo s.startUp.node c with
  | false => rw [areaCell_of_unaddressed had]
  | true =>
    by_cases hq : Config.queueCapacity ≤ s.mgmt.queue.length
    · rw [areaCell_declined had hq]
    · rw [areaCell_answered had hq (hc had)]

/-! The walk -/

/-- The walk over the command cells from `lo` up to `hi`, before it reaches cell n. -/
def areaBefore (lo hi : Nat) (cells : Vector MgmtCell 4) (a : AreaStep) : Nat → AreaStep
  | 0 => a
  | n + 1 =>
    if h : n < 4 then (areaCellWithin lo hi cells (areaBefore lo hi cells a n) ⟨n, h⟩).1 else areaBefore lo hi cells a n

theorem areaBefore_succ (lo hi : Nat) (cells : Vector MgmtCell 4) (a : AreaStep) (i : Fin 4) :
    areaBefore lo hi cells a (i.val + 1) = (areaCellWithin lo hi cells (areaBefore lo hi cells a i.val) i).1 := by
  rw [areaBefore, dif_pos i.isLt]

theorem takeCells_fst (lo hi : Nat) (cells : Vector MgmtCell 4) (a : AreaStep) :
    (takeCells lo hi cells a).1 = areaBefore lo hi cells a 4 := rfl

theorem takeCells_snd (lo hi : Nat) (cells : Vector MgmtCell 4) (a : AreaStep) (i : Fin 4) :
    (takeCells lo hi cells a).2[i] = (areaCellWithin lo hi cells (areaBefore lo hi cells a i.val) i).2 := by
  fin_cases i <;> rfl

theorem areaBefore_startUp (lo hi : Nat) (cells : Vector MgmtCell 4) (a : AreaStep) (n : Nat) :
    (areaBefore lo hi cells a n).state.startUp = a.state.startUp := by
  induction n with
  | zero => rfl
  | succ n ih =>
    rw [areaBefore]
    split
    · unfold areaCellWithin
      split
      · rw [areaCell_startUp, ih]
      · exact ih
    · exact ih

/-- Two walks that do the same at each of the first n cells have come to the same. -/
theorem areaBefore_congr {lo hi lo' hi' : Nat} {cells cells' : Vector MgmtCell 4} {a : AreaStep} (n : Nat)
    (h : ∀ i : Fin 4, i.val < n → ∀ b : AreaStep, b.state.startUp = a.state.startUp →
      (areaCellWithin lo hi cells b i).1 = (areaCellWithin lo' hi' cells' b i).1) :
    areaBefore lo hi cells a n = areaBefore lo' hi' cells' a n := by
  induction n with
  | zero => rfl
  | succ n ih =>
    rw [areaBefore, areaBefore, ← ih fun i hi => h i (Nat.lt_succ_of_lt hi)]
    split
    · next hn => exact h ⟨n, hn⟩ (Nat.lt_succ_self n) _ (areaBefore_startUp _ _ _ _ _)
    · rfl

theorem areaCellWithin_of_mem {lo hi : Nat} {i : Fin 4} (h : lo ≤ i.val ∧ i.val < hi) (cells : Vector MgmtCell 4)
    (a : AreaStep) : areaCellWithin lo hi cells a i = areaCell a cells[i] := if_pos h

theorem areaCellWithin_of_not_mem {lo hi : Nat} {i : Fin 4} (h : ¬ (lo ≤ i.val ∧ i.val < hi)) (cells : Vector MgmtCell 4)
    (a : AreaStep) : areaCellWithin lo hi cells a i = (a, cells[i]) := if_neg h

theorem areaCellWithin_of_unaddressed {lo hi : Nat} {i : Fin 4} {cells : Vector MgmtCell 4} {a : AreaStep}
    (h : addressedTo a.state.startUp.node cells[i] = false) : areaCellWithin lo hi cells a i = (a, cells[i]) := by
  unfold areaCellWithin
  split
  · exact areaCell_of_unaddressed h
  · rfl

/-- A walk with nothing left to handle. -/
theorem takeCells_done {lo : Nat} (h : 4 ≤ lo) (hi : Nat) (cells : Vector MgmtCell 4) (a : AreaStep) :
    takeCells lo hi cells a = (a, cells) := by
  have pass : ∀ (b : AreaStep) (i : Fin 4), areaCellWithin lo hi cells b i = (b, cells[i]) := fun b i =>
    areaCellWithin_of_not_mem (by have := i.isLt; omega) cells b
  simp only [takeCells, pass]
  rw [Prod.mk.injEq]
  exact ⟨rfl, Vector.ext fun i hi => by interval_cases i <;> rfl⟩

/-- The cells from cell j on are cell j and those behind it. -/
theorem takeCells_cell (j : Fin 4) (cells : Vector MgmtCell 4) (a : AreaStep) :
    takeCells j.val 4 cells a =
      takeCells (j.val + 1) 4 (cells.set j (areaCell a cells[j]).2) (areaCell a cells[j]).1 := by
  fin_cases j <;> simp [takeCells, areaCellWithin]

end Sys2Proof.Machine
end

section
/-! PROOFS. Good outbound frames in LOCKED: the gap test, the selection in the slot cells, and passages in composition. -/

namespace Sys2Proof.Machine

/-! Holes -/

/-- Holes on top of holes. -/
theorem withHoles_add (n m : Nat) (j k : Word) (h : Intake) :
    withHoles (n + 1) k (withHoles m j h) = withHoles (n + 1 + m) k h := by
  induction n generalizing k with
  | zero => rw [withHoles_succ, Nat.add_comm m]
  | succ n ih => rw [← withHoles_succ (n + 1) k, ih, withHoles_succ, Nat.add_right_comm (n + 1) m 1]

/-- Holes for g numbers after p, none for g = 0. -/
theorem giveHoles_of (p : Word) (g : Nat) (s : State) :
    giveHoles p g s =
      { s with
        intake := if g = 0 then s.intake else withHoles g (p + BitVec.ofNat 16 g) s.intake
        counters := counted 7 (attachedSlots s * g) s.counters } := by
  match g with
  | 0 => rw [if_pos rfl, Nat.mul_zero, counted_zero]; rfl
  | g + 1 => rw [giveHoles_eq, if_neg (Nat.succ_ne_zero g)]

/-- The last of the frame numbers missed is the one before the frame. -/
theorem add_frameGap (p m : Word) : p + BitVec.ofNat 16 (frameGap p m) = m - 1 := by
  rw [frameGap, BitVec.ofNat_toNat, BitVec.setWidth_eq]
  ring

/-! The gap test -/

theorem gapTest_of_awaiting {p m : Word} {s : State} (ha : s.ports.frameMatch = .awaiting) :
    gapTest p m s =
      { s with
        ports := { s.ports with frameMatch := .spent }
        intake :=
          if 32 ≤ frameGap p m then { history := Vector.replicate 64 History.holes, head := some p }
          else withHoles (1 + frameGap p m) (m - 1) s.intake
        counters := counted 7 (attachedSlots s * (1 + if 32 ≤ frameGap p m then 0 else frameGap p m))
          (counted 2 1 s.counters) } := by
  have hole : bump .retMismatch 1 (giveHole p (s.setPorts { s.ports with frameMatch := .spent })) =
      { s with
        ports := { s.ports with frameMatch := .spent }
        intake := withHoles 1 p s.intake
        counters := counted 7 (attachedSlots s) (counted 2 1 s.counters) } := by
    rw [giveHole_eq, bump_eq, counterItem, ← counted_comm 2 7 (by decide)]
    rfl
  simp only [gapTest, ha, if_true, hole, Config.gapFlush]
  by_cases hg : 32 ≤ frameGap p m
  · simp only [hg, if_true, Nat.add_zero, Nat.mul_one]
    rfl
  · simp only [hg, if_false, giveHoles_of, add_frameGap, counted_counted]
    have total : attachedSlots s + attachedSlots s * frameGap p m = attachedSlots s * (1 + frameGap p m) := by ring
    rw [← total]
    match h : frameGap p m with
    | 0 =>
      have : m - 1 = p := by rw [← add_frameGap p m, h]; simp
      rw [if_pos rfl, this]
      rfl
    | g + 1 =>
      rw [if_neg (Nat.succ_ne_zero g), withHoles_add, Nat.add_comm 1]
      rfl

theorem gapTest_of_settled {p m : Word} {s : State} (ha : s.ports.frameMatch ≠ .awaiting) :
    gapTest p m s =
      { s with
        intake :=
          if 32 ≤ frameGap p m then { history := Vector.replicate 64 History.holes, head := s.intake.head }
          else if frameGap p m = 0 then s.intake
          else withHoles (frameGap p m) (m - 1) s.intake
        counters := counted 7 (attachedSlots s * (if 32 ≤ frameGap p m then 0 else frameGap p m)) s.counters } := by
  simp only [gapTest, ha, if_false, Config.gapFlush]
  by_cases hg : 32 ≤ frameGap p m
  · simp only [hg, if_true, Nat.mul_zero, counted_zero]
    rfl
  · simp only [hg, if_false, giveHoles_of, add_frameGap]

@[simp] theorem selectOutput_gapTested (f : Frame) (s : State) (n : Word) (u : Slot) :
    selectOutput (gapTested f s) n u = selectOutput s n u := by
  unfold gapTested
  split
  · simp only [selectOutput, gapTest_slots, gapTest_limit, gapTest_coupling]
  · rfl

@[simp] theorem gapTested_slots (f : Frame) (s : State) : (gapTested f s).slots = s.slots := by
  unfold gapTested; split <;> simp

@[simp] theorem gapTested_startUp (f : Frame) (s : State) : (gapTested f s).startUp = s.startUp := by
  unfold gapTested; split <;> simp

/-! Passages in composition -/

/-- Finishing a passage composes the cells to come and takes the command cells to come. -/
theorem finishPassage_setPorts_composing (s : State) (c : Composing) :
    finishPassage (s.setPorts { s.ports with composing := some c }) =
      endOutbound (composeFrom c.next c.frame s).1
        (takeCells (c.next - c.frame.used.toNat) 4 (composeFrom c.next c.frame s).1.commands
          { state := (composeFrom c.next c.frame s).2, reset := c.reset }) := by
  have area := takeCells_setPorts (c.next - c.frame.used.toNat) 4 (composeFrom c.next c.frame s).1.commands
    { state := (composeFrom c.next c.frame s).2, reset := c.reset } { s.ports with composing := some c }
  simp only [AreaStep.setPorts] at area
  simp only [finishPassage, State.ports_setPorts, composeFrom_setPorts, area]
  simp only [endOutbound, State.ports_setPorts, takeCells_ports, composeFrom_ports]
  rfl

theorem finishPassage_of_composing {s : State} {c : Composing} (hc : s.ports.composing = some c) :
    finishPassage s =
      endOutbound (composeFrom c.next c.frame s).1
        (takeCells (c.next - c.frame.used.toNat) 4 (composeFrom c.next c.frame s).1.commands
          { state := (composeFrom c.next c.frame s).2, reset := c.reset }) := by
  simp only [finishPassage, hc]

theorem finishPassage_of_none {s : State} (h : s.ports.composing = none) : finishPassage s = s := by
  simp only [finishPassage, h]

theorem finishPassage_idem (s : State) : finishPassage (finishPassage s) = finishPassage s :=
  finishPassage_of_none (finishPassage_composing s)

/-- A frame composed at once is the frame composed cell by cell. -/
theorem finishPassage_byCell (f : Frame) (s : State) :
    finishPassage (lockedOutbound f .byCell s) = lockedOutbound f .atOnce s := by
  rw [lockedOutbound_byCell, lockedOutbound_atOnce, finishPassage_setPorts_composing, Nat.zero_sub, finishOutbound, takeFirst]

theorem exec_outboundCellArrival_slot {s : State} {c : Composing} (hc : s.ports.composing = some c) {pos : Fin 64}
    (hp : pos.val = c.next) (hn : c.next < c.frame.used.toNat) :
    exec .outboundCellArrival s =
      .next ((composeCell pos c.frame s).2.setPorts { s.ports with
        composing := some { frame := (composeCell pos c.frame s).1, next := pos.val + 1, reset := c.reset } }) := by
  obtain ⟨f, n, k⟩ := c
  obtain rfl : pos.val = n := hp
  have hpos : Fin.ofNat 64 pos.val = pos := Fin.ext (Nat.mod_eq_of_lt pos.isLt)
  simp only [exec, execOutboundCellArrival, hc, hn, if_true, hpos, composeCell_ports]

theorem exec_outboundCellArrival_command {f : Frame} {j : Fin 4} {k : Option ResetKind} {s : State}
    (hc : s.ports.composing = some { frame := f, next := f.used.toNat + j.val, reset := k }) :
    exec .outboundCellArrival s = .next (arriveCommand { frame := f, next := f.used.toNat + j.val, reset := k } s) := by
  have : ¬ f.used.toNat + j.val < f.used.toNat := by omega
  simp only [exec, execOutboundCellArrival, hc, this, if_false]

/-- A slot cell that arrives leaves what finishing comes to as it was. -/
theorem finishPassage_slotArrival {s : State} {c : Composing} (hc : s.ports.composing = some c) {pos : Fin 64}
    (hp : pos.val = c.next) (hn : c.next < c.frame.used.toNat) :
    finishPassage ((composeCell pos c.frame s).2.setPorts { s.ports with
      composing := some { frame := (composeCell pos c.frame s).1, next := pos.val + 1, reset := c.reset } }) =
    finishPassage s := by
  have := finishPassage_setPorts_composing (composeCell pos c.frame s).2
    { frame := (composeCell pos c.frame s).1, next := pos.val + 1, reset := c.reset }
  rw [composeCell_ports] at this
  rw [this, finishPassage_of_composing hc, ← hp, composeFrom_cell]
  simp only [composeCell_used]
  rw [Nat.sub_eq_zero_of_le (by omega : pos.val + 1 ≤ c.frame.used.toNat),
    Nat.sub_eq_zero_of_le (by omega : pos.val ≤ c.frame.used.toNat)]

/-- A command cell that arrives leaves what finishing comes to as it was, and the last one comes to it. -/
theorem finishPassage_commandArrival {f : Frame} {j : Fin 4} {k : Option ResetKind} {s : State}
    (hc : s.ports.composing = some { frame := f, next := f.used.toNat + j.val, reset := k }) :
    finishPassage (arriveCommand { frame := f, next := f.used.toNat + j.val, reset := k } s) = finishPassage s ∧
    (¬ j.val < 3 → arriveCommand { frame := f, next := f.used.toNat + j.val, reset := k } s = finishPassage s) := by
  have finished : finishPassage s =
      endOutbound f (takeCells (j.val + 1) 4 (f.commands.set j (areaCell { state := s, reset := k } f.commands[j]).2)
        (areaCell { state := s, reset := k } f.commands[j]).1) := by
    rw [finishPassage_of_composing hc, composeFrom_of_used_le (Nat.le_add_right _ _), Nat.add_sub_cancel_left, takeCells_cell]
  rw [arriveCommand_eq, finished]
  by_cases hj : j.val < 3
  · simp only [hj, if_true, not_true_eq_false, false_implies, and_true]
    rw [finishPassage_setPorts_composing, composeFrom_of_used_le (by simp only []; omega)]
    simp only []
    rw [show f.used.toNat + j.val + 1 - f.used.toNat = j.val + 1 by omega]
    rfl
  · simp only [hj, if_false, not_false_eq_true, true_implies]
    rw [finishPassage_of_none (endOutbound_composing _ _), takeCells_done (by omega)]
    exact ⟨rfl, rfl⟩

theorem beginReset_powered {k : Option ResetKind} {s : State} (h : s.startUp.phase ≠ .unpowered) :
    (beginReset k s).startUp.phase ≠ .unpowered :=
  beginReset_of_some (P := fun u => u.startUp.phase ≠ .unpowered) (fun _ => h) (by simp) h

theorem finishPassage_powered {s : State} (h : s.startUp.phase ≠ .unpowered) :
    (finishPassage s).startUp.phase ≠ .unpowered := by
  unfold finishPassage
  split
  · exact h
  · exact beginReset_powered (by simpa using h)

/-- A cell that arrives leaves what finishing comes to as it was, and the last one comes to it (log 2). -/
theorem finishPassage_arrival {c : Composing} {s t : State} (hs : PortsLawful s) (hc : s.ports.composing = some c)
    (h : exec .outboundCellArrival s = .next t) :
    finishPassage t = finishPassage s ∧ (t.ports.composing = none → t = finishPassage s) := by
  obtain ⟨-, -, hv, hn⟩ := hs.composing hc
  have hu : c.frame.used.toNat ≤ 64 := by simp only [validUsed, Bool.and_eq_true, decide_eq_true_eq] at hv; exact hv.2
  by_cases hcell : c.next < c.frame.used.toNat
  · rw [exec_outboundCellArrival_slot (pos := ⟨c.next, by omega⟩) hc rfl hcell, Host.Outcome.next.injEq] at h
    subst h
    exact ⟨finishPassage_slotArrival hc rfl hcell, by simp⟩
  · obtain ⟨f, n, k⟩ := c
    simp only [] at hn hu hcell
    obtain ⟨j, rfl⟩ : ∃ j : Fin 4, n = f.used.toNat + j.val := ⟨⟨n - f.used.toNat, by omega⟩, by simp only []; omega⟩
    rw [exec_outboundCellArrival_command hc, Host.Outcome.next.injEq] at h
    subst h
    obtain ⟨same, last⟩ := finishPassage_commandArrival hc
    refine ⟨same, fun hq => last fun hj => ?_⟩
    rw [arriveCommand_eq] at hq
    simp [hj] at hq

/-- Settles O8. -/
theorem goodOutboundFramesBegin : Obligations.GoodOutboundFramesBegin := by
  refine ⟨fun f p s hq hl hf hp => ?_, fun f s t hq hl hf h => ?_, fun c s t hs hc h => finishPassage_arrival hs hc h,
    fun f b m c s hp _ => ?_⟩
  · rw [exec_outboundFrame_good hq hl hf, lockedOutbound_byCell, gapTested_of_some hp]
    by_cases ha : s.ports.frameMatch = .awaiting
    · rw [gapTest_of_awaiting ha]
      simp only [ha, if_true, frameGap, Nat.add_eq_zero_iff, one_ne_zero, false_and, if_false]
      rfl
    · rw [gapTest_of_settled ha]
      simp only [ha, if_false, frameGap, Nat.zero_add, counted_zero]
      rfl
  · rw [exec_outboundFrame_good hq hl hf, Host.Outcome.next.injEq] at h
    subst h
    rw [exec_outboundFrame_good hq hl hf, finishPassage_byCell]
  · simp only [exec, execOutboundFrame, hp, finishPassage_powered hp, if_false, finishPassage_idem]

/-! The slot cells of a frame -/

/-- What a used, mapped cell goes out with (R10, R82). -/
theorem composeCell_selects {pos : Fin 64} {u : Slot} {f : Frame} {s : State} {c : Word} {k : CellStatus} {miss : Bool}
    (hm : MapInjective s.slots.map) (hu : pos.val < f.used.toNat) (hmap : s.slots.map[u] = some pos)
    (hsel : Selects s f.number u c k miss) :
    composeCell pos f s =
      ({ f with cells := f.cells.set pos { f.cells[pos] with correction := c, status := statusCode k } },
        recordMiss miss s) := by
  rw [composeCell_of_mapped hu ((slotAt_eq_some hm).2 hmap), (selects_iff _ _ _ _ _ _).1 hsel]
  rfl

/-- Settles O9. -/
theorem outboundCellsCarryTheSelection : Obligations.OutboundCellsCarryTheSelection := by
  intro f s hq hl hf hm
  rw [exec_outboundFrame_good hq hl hf, lockedOutbound_atOnce]
  refine ⟨_, _, rfl, beginReset_outbOut _ _, ?_⟩
  simp only [regenerate]
  rw [composeFrom_frame]
  refine ⟨rfl, rfl, rfl, rfl, rfl, fun pos hp => ?_, fun pos hp => ?_, fun pos u hp hmap c k miss hsel => ?_⟩
  · rw [composeFrom_cells, if_pos (Nat.zero_le _), composeCell_of_unused hp]
  · rw [composeFrom_cells, if_pos (Nat.zero_le _), composeCell_of_unmapped]
    rw [gapTested_slots, slotAt_eq_none]
    exact hp
  · have hsel' : Selects (gapTested f s) f.number u c k miss := by
      rw [selects_iff, selectOutput_gapTested]
      exact (selects_iff _ _ _ _ _ _).1 hsel
    rw [composeFrom_cells, if_pos (Nat.zero_le _),
      composeCell_selects (by rwa [gapTested_slots]) hp (by rwa [gapTested_slots]) hsel']
    simp

/-! The cells of a passage in composition -/

/-- A command cell but a RESET does, taken from a frame, what its row does (R148, log 5). -/
theorem exec_rowOf {code : Byte} (h : code ≠ 14) (r : Request) (s : State) :
    exec (rowOf code r) s = .next (takeCommand code r (decideCommand code r) s) := by
  have of_toNat : ∀ n : Byte, code.toNat = n.toNat → code = n := fun n => BitVec.eq_of_toNat_eq
  unfold rowOf
  split
  case h_1 hc => obtain rfl := of_toNat 1 hc; rfl
  case h_2 hc => obtain rfl := of_toNat 2 hc; rfl
  case h_3 hc => obtain rfl := of_toNat 3 hc; rfl
  case h_4 hc => obtain rfl := of_toNat 4 hc; rfl
  case h_5 hc => obtain rfl := of_toNat 5 hc; rw [exec, execDataSlotmap, slotmapRow_eq]; rfl
  case h_6 hc => obtain rfl := of_toNat 6 hc; rfl
  case h_7 hc => obtain rfl := of_toNat 7 hc; rfl
  case h_8 hc => obtain rfl := of_toNat 8 hc; rfl
  case h_9 hc => obtain rfl := of_toNat 9 hc; rfl
  case h_10 hc => obtain rfl := of_toNat 10 hc; rfl
  case h_11 hc => obtain rfl := of_toNat 11 hc; rfl
  case h_12 hc => obtain rfl := of_toNat 12 hc; rfl
  case h_13 hc => obtain rfl := of_toNat 13 hc; rfl
  case h_14 hc => exact absurd (of_toNat 14 hc) h
  case h_15 =>
    have : decideCommand code r = decideUnknown := by
      funext s
      unfold decideCommand
      split <;> first | contradiction | rfl
    rw [this]
    rfl

/-- A row that is taken answers (R148). -/
theorem takeCommand_of_free {s : State} (hl : OnLoop s) (hq : ¬ Config.queueCapacity ≤ s.mgmt.queue.length) (code : Byte)
    (r : Request) (d : State → State × Reply) : takeCommand code r d s = answerCommand code r d s := by
  have : entryFree s = true := by simpa [entryFree] using hq
  simp only [takeCommand, (onLoop_iff s).2 hl, this, if_true]

/-- What the arrival of a command cell leaves: the passage goes on with the next cell, or it ends (R10, R12). -/
theorem exec_outboundCellArrival_goesOn {f : Frame} {j : Fin 4} {k after : Option ResetKind} {s v : State} {x : MgmtCell}
    (hc : s.ports.composing = some { frame := f, next := f.used.toNat + j.val, reset := k })
    (h : areaCell { state := s, reset := k } f.commands[j] = ({ state := v, reset := after }, x)) :
    let g := { f with commands := f.commands.set j x }
    exec .outboundCellArrival s = .next
      (if j.val < 3 then
        { v with ports := { v.ports with composing := some { frame := g, next := f.used.toNat + j.val + 1, reset := after } } }
      else
        beginReset after { v with ports := { v.ports with
          lastGood := some { number := f.number, used := f.used }, frameMatch := .awaiting, badRun := 0, composing := none
          outbOut := some (regenerate g) } }) := by
  rw [exec_outboundCellArrival_command hc, arriveCommand_eq, h]
  rfl

theorem recordMiss_eq (miss : Bool) (s : State) :
    recordMiss miss s =
      { s with
        alerts := if miss then withPending 10 s.alerts else s.alerts
        counters := if miss then counted 3 1 s.counters else s.counters } := by
  cases miss <;> rfl

/-- Settles O10. -/
theorem cellsAreComposedAndThePassageEnds : Obligations.CellsAreComposedAndThePassageEnds := by
  refine ⟨fun f pos k s hc hu hm => ⟨fun hp => ?_, fun u c x miss hmap hsel => ?_⟩, fun f j k s hl hc => ?_⟩
  · rw [exec_outboundCellArrival_slot hc rfl hu, composeCell_of_unmapped (slotAt_eq_none.2 hp)]
    rfl
  · rw [exec_outboundCellArrival_slot hc rfl hu, composeCell_selects hm hu hmap hsel]
    simp only [recordMiss_eq]
    rfl
  · refine ⟨fun hk => ?_, fun hk had hq => ?_, fun hk had hq h14 => ?_, fun hk had hq h14 => ?_⟩
    · refine exec_outboundCellArrival_goesOn hc ?_
      rcases hk with hk | hn
      · exact areaCell_of_reset hk _
      · exact areaCell_of_unaddressed (by simpa using hn)
    all_goals subst hk
    · exact exec_outboundCellArrival_goesOn hc (areaCell_declined had hq)
    · refine exec_outboundCellArrival_goesOn hc ((areaCell_reset had hq h14).trans ?_)
      simp only [asksFull, beq_iff_eq]
      rfl
    · refine ⟨_, (exec_rowOf h14 _ _).trans (congrArg _ (takeCommand_of_free hl hq _ _ _)), ?_⟩
      exact exec_outboundCellArrival_goesOn hc (areaCell_answered had hq h14)

end Sys2Proof.Machine
end

section
/-! PROOFS. Matching returns: the response area, the alert report, and the cut return. -/

namespace Sys2Proof.Machine

/-! The response area (R15) -/

/-- The EMPTY cells among the first n. -/
def emptiesBefore (cells : List MgmtCell) (n : Nat) : Nat := (cells.take n).countP fun c => cellKind c == .empty

/-- A response cell that has found an entry of the queue, or none: an EMPTY one takes the response. -/
def filledCell (c : MgmtCell) (e : Option QueueEntry) : MgmtCell :=
  match cellKind c, e with
  | .empty, some (.ready x) => x
  | _, _ => c

/-- A queue of responses only. -/
def AllReady (queue : List QueueEntry) : Prop := QueueEntry.reserved ∉ queue

theorem filledCell_of_not_empty {c : MgmtCell} (h : cellKind c ≠ .empty) (e : Option QueueEntry) : filledCell c e = c := by
  unfold filledCell
  split
  · next hc => exact absurd hc h
  · rfl

theorem filledCell_none (c : MgmtCell) : filledCell c none = c := by
  unfold filledCell
  split
  · next h => simp at h
  · rfl

theorem filledCell_ready {c : MgmtCell} (h : cellKind c = .empty) (x : MgmtCell) : filledCell c (some (.ready x)) = x := by
  simp only [filledCell, h]

theorem fillResponses_of_not_empty {c : MgmtCell} (h : cellKind c ≠ .empty) (rest : List MgmtCell) (queue : List QueueEntry) :
    fillResponses (c :: rest) queue = (c :: (fillResponses rest queue).1, (fillResponses rest queue).2) := by
  rw [fillResponses]
  exact fun _ _ hc => absurd hc h

theorem fillResponses_nil_queue (cells : List MgmtCell) : fillResponses cells [] = (cells, []) := by
  induction cells with
  | nil => rfl
  | cons c rest ih =>
    rw [fillResponses, ih]
    simp

theorem fillResponses_ready {c : MgmtCell} (h : cellKind c = .empty) (rest : List MgmtCell) (x : MgmtCell)
    (q : List QueueEntry) :
    fillResponses (c :: rest) (.ready x :: q) = (x :: (fillResponses rest q).1, (fillResponses rest q).2) := by
  simp only [fillResponses, h]

/-- The EMPTY cells take the responses in order: what is left of the queue, and what each cell holds (R15). -/
theorem fillResponses_spec (cells : List MgmtCell) {queue : List QueueEntry} (hq : AllReady queue) :
    (fillResponses cells queue).2 = queue.drop (cells.countP fun c => cellKind c == .empty) ∧
    ∀ j : Nat, (fillResponses cells queue).1[j]? =
      (cells[j]?).map fun c => filledCell c queue[emptiesBefore cells j]? := by
  induction cells generalizing queue with
  | nil => simp [fillResponses]
  | cons c rest ih =>
    by_cases hc : cellKind c = .empty
    · match queue with
      | [] => simp [fillResponses_nil_queue, filledCell_none]
      | .reserved :: q => exact absurd List.mem_cons_self hq
      | .ready x :: q =>
        obtain ⟨left, filled⟩ := ih (queue := q) fun h => hq (List.mem_cons_of_mem _ h)
        rw [fillResponses_ready hc]
        refine ⟨by simp [left, hc], fun j => ?_⟩
        cases j with
        | zero => simp [emptiesBefore, filledCell_ready hc]
        | succ j => simp [filled, emptiesBefore, hc]
    · obtain ⟨left, filled⟩ := ih hq
      rw [fillResponses_of_not_empty hc]
      refine ⟨by simp [left, hc], fun j => ?_⟩
      cases j with
      | zero => simp [filledCell_of_not_empty hc]
      | succ j => simp [filled, emptiesBefore, hc]

theorem filledArea_cell (cells : Vector MgmtCell 4) {queue : List QueueEntry} (hq : AllReady queue) (j : Fin 4) :
    (filledArea cells queue)[j] = filledCell cells[j] queue[emptiesBefore cells.toList j.val]? := by
  simp [filledArea, (fillResponses_spec cells.toList hq).2]

/-- No entry is reserved while a return is awaited: a RESET that is taken lasts as long as its passage (R149, R159). -/
theorem Matching.allReady {f : Frame} {s : State} (h : Matching f s) (hp : PortsLawful s) (hq : QueueLawful s) :
    AllReady s.mgmt.queue := by
  obtain ⟨-, -, -, ha, -⟩ := h
  intro hr
  obtain ⟨c, hc⟩ : ∃ c, s.ports.composing = some c := by
    rw [← Option.isSome_iff_exists]
    have := hq.2 _ hr rfl
    cases h : s.ports.composing <;> simp_all [passageReset]
  exact (hp.composing hc).2.1 ha

/-! The frame boundary and the response queue -/

@[simp] theorem leaseBoundary_queue (s : State) : (leaseBoundary s).mgmt.queue = s.mgmt.queue := by simp [leaseBoundary]

@[simp] theorem leaseBoundary_contexts (s : State) : (leaseBoundary s).mgmt.contexts = s.mgmt.contexts := by
  simp [leaseBoundary]

@[simp] theorem frameBoundary_queue (f : Frame) (s : State) : (frameBoundary f s).mgmt.queue = s.mgmt.queue := by
  simp [frameBoundary]

@[simp] theorem frameBoundary_contexts (f : Frame) (s : State) : (frameBoundary f s).mgmt.contexts = s.mgmt.contexts := by
  simp [frameBoundary]

theorem matchedReturn_ports (f : Frame) (s : State) :
    (matchedReturn f s).ports = { s.ports with frameMatch := .spent, retOut := some (writtenReturn f s) } := by
  simp [matchedReturn]

/-! The alert report (R165, R166) -/

theorem reportsInBand_iff (u : AlertUnit) (n : Fin 16) :
    reportsInBand u n = true ↔
      u.pending.getLsbD n = true ∧ u.map[n].masked = false ∧ (u.map[n].route = .inBand ∨ u.map[n].route = .both) := by
  have route : routesInBand u.map[n].route = true ↔ u.map[n].route = .inBand ∨ u.map[n].route = .both := by
    cases u.map[n].route <;> simp [routesInBand]
  rw [reportsInBand, Bool.and_eq_true, Bool.and_eq_true, route, Bool.not_eq_true', and_assoc]

theorem alertReport_eq_none {u : AlertUnit} (h : ∀ n, reportsInBand u n ≠ true) : alertReport u = none :=
  List.find?_eq_none.2 fun n _ => h n

theorem alertReport_eq_some {u : AlertUnit} {n : Fin 16} (hn : reportsInBand u n = true)
    (h : ∀ k, k < n → reportsInBand u k ≠ true) : alertReport u = some n := by
  refine List.find?_eq_some_iff_getElem.2 ⟨hn, n.val, by simp, by simp, fun j hj => ?_⟩
  have := h ⟨j, hj.trans n.isLt⟩ hj
  simpa using this

theorem mergeAlert_of_higher {alert : Word} {n : Fin 16} {node : BitVec 4} (ho : alert.getLsbD 15 = true)
    (h : (alert.extractLsb' 8 4).toNat ≤ n.val) : mergeAlert alert (some n) node = alert := by
  simp only [mergeAlert, alertOccupied, alertSource, ho, h, decide_true, Bool.and_self, if_true]

theorem mergeAlert_of_lower {alert : Word} {n : Fin 16} {node : BitVec 4}
    (h : alert.getLsbD 15 = false ∨ n.val < (alert.extractLsb' 8 4).toNat) :
    mergeAlert alert (some n) node = (8 : BitVec 4) ++ BitVec.ofNat 4 n.val ++ (0 : BitVec 4) ++ node := by
  have : (alertOccupied alert && decide (alertSource alert ≤ n.val)) = false := by
    rcases h with h | h
    · simp only [alertOccupied, h, Bool.false_and]
    · rw [alertSource, decide_eq_false (Nat.not_le.2 h), Bool.and_false]
  simp only [mergeAlert, this, Bool.false_eq_true, if_false]
  rfl

/-- Settles O14. -/
theorem matchingReturnsAnswerAndReport : Obligations.MatchingReturnsAnswerAndReport := by
  refine ⟨fun f s hm hp hq => ?_, fun f s hm => ?_⟩
  · have ready := hm.allReady hp hq
    refine ⟨_, _, exec_returnFrame_matching f s hm, matchedReturn_ports f s, rfl, rfl, rfl, rfl, rfl, ?_, ?_, fun j => ?_⟩
    · have whole : f.responses.toList.take 4 = f.responses.toList := List.take_of_length_le (by simp)
      simp only [matchedReturn, frameBoundary_queue, whole]
      exact (fillResponses_spec f.responses.toList ready).1
    · simp [matchedReturn]
    · exact filledArea_cell f.responses ready j
  · refine ⟨_, writtenReturn f s, exec_returnFrame_matching f s hm, by rw [matchedReturn_ports], ?_⟩
    simp only [← reportsInBand_iff]
    refine ⟨fun hn => ?_, fun n hn hk => ⟨fun ho hle => ?_, fun h => ?_⟩⟩
    · simp only [writtenReturn, regenerate, alertReport_eq_none hn, mergeAlert]
    · simp only [writtenReturn, regenerate, alertReport_eq_some hn hk, mergeAlert_of_higher ho hle]
    · simp only [writtenReturn, regenerate, alertReport_eq_some hn hk, mergeAlert_of_lower h]

end Sys2Proof.Machine
end

section
/-! PROOFS. Frames forwarded as they are, and passages that the start of a TRANSPARENT span cuts (R7, log 18). -/

namespace Sys2Proof.Machine

/-! Forwarding -/

theorem exec_outboundFrame_forwarded {f : Frame} {b : PassageStart} {m : Composition} {s : State} (hq : Quiet s)
    (h : s.ports.condition = .transparent ∨ b = .earlier) :
    exec (.outboundFrame f b m) s = .next { s with ports := { s.ports with outbOut := some f } } := by
  simp only [exec, execOutboundFrame, finishPassage_quiet s hq, hq.1, if_false, h, if_true]
  rfl

theorem exec_returnFrame_forwarded {f : Frame} {p : ReturnPassage} {s : State} (hp : s.startUp.phase ≠ .unpowered)
    (h : s.ports.condition = .transparent ∨ p = .earlier) :
    exec (.returnFrame f p) s = .next { s with ports := { s.ports with retOut := some f } } := by
  have : (!onLoop s || p == .earlier) = true := by
    rcases h with h | h <;> simp [onLoop, h]
  simp only [exec, execReturnFrame, hp, if_false, this, if_true]
  rfl

theorem exec_frame_unpowered {s : State} (h : s.startUp.phase = .unpowered) (f : Frame) (b : PassageStart)
    (p : ReturnPassage) (m : Composition) :
    exec (.outboundFrame f b m) s = .next s ∧ exec (.returnFrame f p) s = .next s := by
  simp only [exec, execOutboundFrame, execReturnFrame, h, if_true, and_self]

theorem exec_returnFrame_cut_unmatched {f : Frame} {k : Fin 5} {report : Bool} {s : State}
    (hp : s.startUp.phase ≠ .unpowered) (hl : OnLoop s) (hm : ¬ Matching f s) :
    exec (.returnFrame f (.cut k report)) s = .next { s with ports := { s.ports with retOut := some f } } := by
  have unmatched : ¬ (goodCheck f && matchesReturn s.ports f) = true := by
    simp only [matchesReturn, Bool.and_eq_true, beq_iff_eq]
    rintro ⟨hg, ha, hn⟩
    exact hm ⟨hp, hl, hg, ha, hn⟩
  have on : (!onLoop s || ReturnPassage.cut k report == .earlier) = false := by rw [(onLoop_iff s).2 hl]; rfl
  simp only [exec, execReturnFrame, hp, on, unmatched, if_false, Bool.false_eq_true]
  rfl

/-! The end of a passage with other command cells -/

/-- What goes out does not matter to the end of a passage: with other command cells it is the same but for the output. -/
theorem endOutbound_commands {f g : Frame} (hn : f.number = g.number) (hu : f.used = g.used) (a : AreaStep)
    (cells cells' : Vector MgmtCell 4) :
    endOutbound f (a, cells) =
      withOutput (some (regenerate { f with commands := cells })) (endOutbound g (a, cells')) := by
  unfold endOutbound
  rw [← beginReset_withOutput, hn, hu]
  rfl

/-- The end of a passage computes the check of its frame anew, and takes its command area from the walk. -/
theorem endOutbound_withArea (f : Frame) (cells : Vector MgmtCell 4) (x : BitVec 32) (a : AreaStep × Vector MgmtCell 4) :
    endOutbound { f with commands := cells, check := x } a = endOutbound f a := rfl

/-- The frame with another command area is composed to the same, and leaves the end of its passage to the area. -/
theorem lockedOutbound_regenerate (f : Frame) (cells : Vector MgmtCell 4) (s : State) :
    lockedOutbound (regenerate { f with commands := cells }) .atOnce s =
      endOutbound (composeFrom 0 f (gapTested f s)).1 (takeFirst 4 cells (composeFrom 0 f (gapTested f s)).2) := by
  have same : gapTested (regenerate { f with commands := cells }) s = gapTested f s := rfl
  have composed : composeFrom 0 (regenerate { f with commands := cells }) (gapTested f s) = _ :=
    composeFrom_withArea 0 f (gapTested f s) cells (regenerate { f with commands := cells }).check
  rw [lockedOutbound_atOnce, same, composed, finishOutbound, endOutbound_withArea]

theorem composeFrom_commands (n : Nat) (f : Frame) (s : State) : (composeFrom n f s).1.commands = f.commands := by
  rw [composeFrom_frame]

/-- Two walks that do the same at each cell come to the same. -/
theorem takeCells_congr {lo hi lo' hi' : Nat} {cells : Vector MgmtCell 4} {a : AreaStep}
    (h : ∀ (i : Fin 4) (b : AreaStep), b.state.startUp = a.state.startUp →
      areaCellWithin lo hi cells b i = areaCellWithin lo' hi' cells b i) :
    takeCells lo hi cells a = takeCells lo' hi' cells a := by
  have before : ∀ n, areaBefore lo hi cells a n = areaBefore lo' hi' cells a n := fun n =>
    areaBefore_congr n fun i _ b hb => by rw [h i b hb]
  refine Prod.ext (before 4) (Vector.ext fun j hj => ?_)
  have left := takeCells_snd lo hi cells a ⟨j, hj⟩
  have right := takeCells_snd lo' hi' cells a ⟨j, hj⟩
  rw [h _ _ (areaBefore_startUp _ _ _ _ _), before] at left
  exact left.trans right.symm

/-! Cut outbound passages -/

/-- The command area up to cell k, with EMPTY cells behind. -/
def areaUpTo (k : Nat) (cells : Vector MgmtCell 4) : Vector MgmtCell 4 :=
  Vector.ofFn fun i : Fin 4 => if i.val < k then cells[i] else emptyCell

theorem areaUpTo_cell (k : Nat) (cells : Vector MgmtCell 4) (i : Fin 4) :
    (areaUpTo k cells)[i] = if i.val < k then cells[i] else emptyCell := by
  simp [areaUpTo]

/-- The first k cells are taken as the area with those behind them EMPTY is. -/
theorem areaCellWithin_upTo (k : Nat) (cells : Vector MgmtCell 4) (a : AreaStep) (i : Fin 4) :
    (areaCellWithin 0 k cells a i).1 = (areaCellWithin 0 4 (areaUpTo k cells) a i).1 ∧
    (areaCellWithin 0 k cells a i).2 =
      if i.val < k then (areaCellWithin 0 4 (areaUpTo k cells) a i).2 else cells[i] := by
  by_cases hk : i.val < k
  · rw [areaCellWithin_of_mem ⟨Nat.zero_le _, hk⟩, areaCellWithin_of_mem ⟨Nat.zero_le _, i.isLt⟩, areaUpTo_cell, if_pos hk,
      if_pos hk]
    exact ⟨rfl, rfl⟩
  · have passes : addressedTo a.state.startUp.node (areaUpTo k cells)[i] = false := by
      rw [areaUpTo_cell, if_neg hk]
      exact emptyCell_unaddressed _
    rw [areaCellWithin_of_not_mem (fun h => hk h.2), areaCellWithin_of_unaddressed passes, if_neg hk]
    exact ⟨rfl, rfl⟩

theorem takeFirst_upTo (k : Nat) (cells : Vector MgmtCell 4) (s : State) :
    takeFirst k cells s =
      ((takeFirst 4 (areaUpTo k cells) s).1,
        Vector.ofFn fun i : Fin 4 => if i.val < k then (takeFirst 4 (areaUpTo k cells) s).2[i] else cells[i]) := by
  have before : ∀ n, areaBefore 0 k cells { state := s, reset := none } n =
      areaBefore 0 4 (areaUpTo k cells) { state := s, reset := none } n := fun n =>
    areaBefore_congr n fun i _ b _ => (areaCellWithin_upTo k cells b i).1
  refine Prod.ext (before 4) (Vector.ext fun i hi => ?_)
  have left := takeCells_snd 0 k cells { state := s, reset := none } ⟨i, hi⟩
  have right := takeCells_snd 0 4 (areaUpTo k cells) { state := s, reset := none } ⟨i, hi⟩
  rw [before, (areaCellWithin_upTo k cells _ _).2, ← right] at left
  simp only [takeFirst, Vector.getElem_ofFn]
  exact left

/-- The end of a passage whose command cells from the k-th on go out as others. -/
theorem endOutbound_upTo (f : Frame) (a : AreaStep) (cells others : Vector MgmtCell 4) (k : Nat) :
    ∃ whole, (endOutbound f (a, cells)).ports.outbOut = some whole ∧
      endOutbound f (a, Vector.ofFn fun i : Fin 4 => if i.val < k then cells[i] else others[i]) =
        withOutput
          (some (regenerate { whole with
            commands := Vector.ofFn fun i : Fin 4 => if i.val < k then whole.commands[i] else others[i] }))
          (endOutbound f (a, cells)) :=
  ⟨regenerate { f with commands := cells }, beginReset_outbOut _ _, endOutbound_commands rfl rfl _ _ _⟩

/-- An outbound frame that is cut behind its first k command cells: the frame with EMPTY cells behind them, which go out as
received. -/
theorem lockedOutbound_cut_upTo (f : Frame) (k : Fin 5) (s : State) :
    ∃ whole, (lockedOutbound (regenerate { f with commands := areaUpTo k.val f.commands }) .atOnce s).ports.outbOut = some whole ∧
      lockedOutbound f (.cut k) s =
        withOutput
          (some (regenerate { whole with
            commands := Vector.ofFn fun i : Fin 4 => if i.val < k.val then whole.commands[i] else f.commands[i] }))
          (lockedOutbound (regenerate { f with commands := areaUpTo k.val f.commands }) .atOnce s) := by
  rw [lockedOutbound_regenerate, lockedOutbound_cut, composeFrom_commands, takeFirst_upTo k.val]
  exact endOutbound_upTo _ _ _ _ _

/-- A cut frame with no command cell for the part behind the cut is the uncut one. -/
theorem lockedOutbound_cut_eq {f : Frame} {k : Fin 5} {s : State}
    (h : ∀ i : Fin 4, k.val ≤ i.val → addressedTo s.startUp.node f.commands[i] = false) :
    lockedOutbound f (.cut k) s = lockedOutbound f .atOnce s := by
  rw [lockedOutbound_cut, lockedOutbound_atOnce, finishOutbound, composeFrom_commands, takeFirst, takeFirst]
  rw [takeCells_congr fun i b hb => ?_]
  by_cases hk : i.val < k.val
  · rw [areaCellWithin_of_mem ⟨Nat.zero_le _, hk⟩, areaCellWithin_of_mem ⟨Nat.zero_le _, i.isLt⟩]
  · have passes : addressedTo b.state.startUp.node f.commands[i] = false := by
      rw [hb, composeFrom_startUp, gapTested_startUp]
      exact h i (Nat.not_lt.1 hk)
    rw [areaCellWithin_of_unaddressed passes, areaCellWithin_of_unaddressed passes]

/-! Cut returns -/

/-- The response area that a cut behind its first k cells leaves. -/
theorem cutArea_cell (cells : Vector MgmtCell 4) {queue : List QueueEntry} (hq : AllReady queue) (k : Nat) (i : Fin 4) :
    ((fillResponses (cells.toList.take k) queue).1)[i.val]?.getD cells[i] =
      if i.val < k then (filledArea cells queue)[i] else cells[i] := by
  rw [(fillResponses_spec _ hq).2]
  by_cases hk : i.val < k
  · have : emptiesBefore (cells.toList.take k) i.val = emptiesBefore cells.toList i.val := by
      rw [emptiesBefore, List.take_take, Nat.min_eq_left (Nat.le_of_lt hk)]
      rfl
    rw [if_pos hk, filledArea_cell cells hq, this]
    simp [hk]
  · have behind : (cells.toList.take k)[i.val]? = none := List.getElem?_eq_none (by simp; omega)
    rw [if_neg hk, behind]
    rfl

/-- Settles O7. -/
theorem transparentForwarding : Obligations.TransparentForwarding := by
  refine ⟨fun f b p m s => ⟨exec_outboundFrame_forwarded, exec_returnFrame_forwarded, fun h => exec_frame_unpowered h f b p m⟩,
    fun f k s hq hl hf => ⟨?_, fun h => ?_⟩, fun f k report s hm hp hql => ?_,
    fun f k report s hp hl hm => exec_returnFrame_cut_unmatched hp hl hm⟩
  · have good : goodCheck (regenerate { f with commands := areaUpTo k.val f.commands }) = true := by
      rw [goodCheck_regenerate]
      exact (Bool.and_eq_true_iff.1 hf).1
    obtain ⟨whole, out, cut⟩ := lockedOutbound_cut_upTo f k s
    refine ⟨_, whole, exec_outboundFrame_good hq hl good .atOnce, out, ?_⟩
    rw [exec_outboundFrame_good hq hl hf, cut]
    rfl
  · rw [exec_outboundFrame_good hq hl hf, exec_outboundFrame_good hq hl hf, lockedOutbound_cut_eq h]
  · have ready := hm.allReady hp hql
    refine ⟨_, _, _, writtenReturn f s, exec_returnFrame_cut k report f s hm, exec_returnFrame_matching f s hm,
      by rw [matchedReturn_ports], ?_, rfl⟩
    have area : (Vector.ofFn fun i : Fin 4 =>
        ((fillResponses (f.responses.toList.take k.val) s.mgmt.queue).1)[i.val]?.getD f.responses[i]) =
        Vector.ofFn fun i : Fin 4 => if i.val < k.val then (writtenReturn f s).responses[i] else f.responses[i] :=
      congrArg Vector.ofFn (funext fun i => cutArea_cell f.responses ready k.val i)
    simp only [cutReturn, area, (fillResponses_spec _ ready).1]
    rfl

end Sys2Proof.Machine
end

section
/-! PROOFS. The last command cell of a frame does what its row does at the end of the frame without it (R12, R148, R159). -/

namespace Sys2Proof.Machine

/-! The last cell of the walk -/

/-- The walk goes over cells that are not addressed to the part. -/
theorem areaBefore_of_unaddressed {lo hi : Nat} {cells : Vector MgmtCell 4} {a : AreaStep} {m : Nat} (n : Nat) (hm : m ≤ n)
    (h : ∀ i : Fin 4, m ≤ i.val → addressedTo a.state.startUp.node cells[i] = false) :
    areaBefore lo hi cells a n = areaBefore lo hi cells a m := by
  induction n, hm using Nat.le_induction with
  | base => rfl
  | succ n hmn ih =>
    rw [areaBefore]
    split
    · next hn =>
      have passes : addressedTo (areaBefore lo hi cells a n).state.startUp.node cells[(⟨n, hn⟩ : Fin 4)] = false := by
        rw [areaBefore_startUp]
        exact h ⟨n, hn⟩ hmn
      rw [areaCellWithin_of_unaddressed passes, ih h]
    · exact ih h

/-- With no cell for the part behind cell k, the walk comes to what cell k leaves. -/
theorem takeFirst_last {cells : Vector MgmtCell 4} {k : Fin 4} {s : State}
    (h : ∀ j : Fin 4, k < j → addressedTo s.startUp.node cells[j] = false) :
    (takeFirst 4 cells s).1 = (areaCell (areaBefore 0 4 cells { state := s, reset := none } k.val) cells[k]).1 := by
  rw [takeFirst, takeCells_fst, areaBefore_of_unaddressed 4 (m := k.val + 1) (by omega) fun i hi => h i hi, areaBefore_succ,
    areaCellWithin_of_mem ⟨Nat.zero_le _, k.isLt⟩]

theorem takeFirst_cell (cells : Vector MgmtCell 4) (s : State) (i : Fin 4) :
    (takeFirst 4 cells s).2[i] = (areaCell (areaBefore 0 4 cells { state := s, reset := none } i.val) cells[i]).2 := by
  rw [takeFirst, takeCells_snd, areaCellWithin_of_mem ⟨Nat.zero_le _, i.isLt⟩]

theorem set_cell_self (cells : Vector MgmtCell 4) (k : Fin 4) (x : MgmtCell) : (cells.set k x)[k] = x := by simp

theorem set_cell_ne {k i : Fin 4} (h : i ≠ k) (cells : Vector MgmtCell 4) (x : MgmtCell) : (cells.set k x)[i] = cells[i] := by
  have : k.val ≠ i.val := fun e => h (Fin.ext e.symm)
  simp [this]

/-- Up to cell k the walk does not look at it. -/
theorem areaBefore_set (cells : Vector MgmtCell 4) (k : Fin 4) (x : MgmtCell) (a : AreaStep) {n : Nat} (hn : n ≤ k.val) :
    areaBefore 0 4 (cells.set k x) a n = areaBefore 0 4 cells a n := by
  refine areaBefore_congr n fun i hi b _ => ?_
  have hne : i ≠ k := fun e => by omega
  rw [areaCellWithin_of_mem ⟨Nat.zero_le _, i.isLt⟩, areaCellWithin_of_mem ⟨Nat.zero_le _, i.isLt⟩, set_cell_ne hne]

/-- The walk over a frame with cell k EMPTY, when cell k is the last one for the part: it ends where the whole walk reaches
cell k, and leaves the same cells but for k. -/
theorem takeFirst_without {cells : Vector MgmtCell 4} {k : Fin 4} {s : State}
    (h : ∀ j : Fin 4, k < j → addressedTo s.startUp.node cells[j] = false) :
    (takeFirst 4 (cells.set k emptyCell) s).1 = areaBefore 0 4 cells { state := s, reset := none } k.val ∧
    (takeFirst 4 cells s).2 = (takeFirst 4 (cells.set k emptyCell) s).2.set k
      (areaCell (areaBefore 0 4 cells { state := s, reset := none } k.val) cells[k]).2 := by
  have without : (takeFirst 4 (cells.set k emptyCell) s).1 = areaBefore 0 4 cells { state := s, reset := none } k.val := by
    rw [takeFirst_last (k := k) fun j hj => by rw [set_cell_ne (Fin.ne_of_gt hj)]; exact h j hj, set_cell_self,
      areaCell_of_unaddressed (emptyCell_unaddressed _), areaBefore_set _ _ _ _ le_rfl]
  refine ⟨without, Vector.ext fun j hj => ?_⟩
  have cell : ∀ i : Fin 4, (takeFirst 4 cells s).2[i] = ((takeFirst 4 (cells.set k emptyCell) s).2.set k
      (areaCell (areaBefore 0 4 cells { state := s, reset := none } k.val) cells[k]).2)[i] := by
    intro i
    by_cases hik : i = k
    · subst hik
      rw [set_cell_self, takeFirst_cell]
    · rw [set_cell_ne hik, takeFirst_cell, takeFirst_cell, set_cell_ne hik]
      by_cases hlt : i < k
      · rw [areaBefore_set _ _ _ _ (Nat.le_of_lt hlt)]
      · have passes : ∀ cs : Vector MgmtCell 4,
            addressedTo (areaBefore 0 4 cs { state := s, reset := none } i.val).state.startUp.node cells[i] = false := by
          intro cs
          rw [areaBefore_startUp]
          exact h i (lt_of_le_of_ne (not_lt.1 hlt) (Ne.symm hik))
        rw [areaCell_of_unaddressed (passes _), areaCell_of_unaddressed (passes _)]
  exact cell ⟨j, hj⟩

/-- With no RESET for the part among them, the first k cells leave no RESET taken. -/
theorem areaBefore_reset_none {cells : Vector MgmtCell 4} {s : State} (k : Nat)
    (h : ∀ j : Fin 4, j.val < k → addressedTo s.startUp.node cells[j] = true → cells[j].code ≠ 14) :
    (areaBefore 0 4 cells { state := s, reset := none } k).reset = none := by
  induction k with
  | zero => rfl
  | succ n ih =>
    have before := ih fun j hj => h j (Nat.lt_succ_of_lt hj)
    rw [areaBefore]
    split
    · next hn =>
      rw [areaCellWithin_of_mem ⟨Nat.zero_le _, hn⟩]
      refine areaCell_reset_none before fun had => h ⟨n, hn⟩ (Nat.lt_succ_self n) ?_
      rwa [areaBefore_startUp] at had
    · exact before

/-! The row of a cell at the end of a passage -/

/-- The ports at the end of a passage (R10). -/
def endPorts (f : Frame) (cells : Vector MgmtCell 4) (p : LoopPorts) : LoopPorts :=
  { p with
    lastGood := some { number := f.number, used := f.used }, frameMatch := .awaiting, badRun := 0, composing := none
    outbOut := some (regenerate { f with commands := cells }) }

theorem endOutbound_eq (f : Frame) (a : AreaStep) (cells : Vector MgmtCell 4) :
    endOutbound f (a, cells) = beginReset a.reset (a.state.setPorts (endPorts f cells a.state.ports)) := rfl

theorem endPorts_output (f : Frame) (cells cells' : Vector MgmtCell 4) (p : LoopPorts) (s : State) :
    s.setPorts (endPorts f cells p) =
      withOutput (some (regenerate { f with commands := cells })) (s.setPorts (endPorts f cells' p)) := rfl

theorem beginReset_some_lock (k : ResetKind) (s : State) : (beginReset (some k) s).ports.lock = .searching := by
  cases k with
  | full => rw [beginReset, fullReset_ports]; rfl
  | warm => rfl

theorem rowOf_reset {code : Byte} (h : code = 14) (r : Request) (s : State) :
    exec (rowOf code r) s = .next (takeReset (if asksFull r then .full else .warm) r s) := by
  subst h
  cases hf : asksFull r <;> simp [rowOf, hf, exec, execResetFull, execResetWarm]

/-- A RESET row outside a passage begins its reset (log 5). -/
theorem takeReset_of_quiet {s : State} (hl : OnLoop s) (hc : s.ports.composing = none)
    (hq : ¬ Config.queueCapacity ≤ s.mgmt.queue.length) (k : ResetKind) (r : Request) :
    takeReset k r s = beginReset (some k) (reserveEntry (renewLeases r s)) := by
  rw [takeReset_taken ⟨hl, Nat.not_le.1 hq, rfl⟩, closePassage_of_quiet hc]
  simp [passageReset, hc]

/-- A command cell that the walk reaches with no RESET taken does what its row does at the end of the passage without it. -/
theorem exec_rowOf_endOutbound (f : Frame) (cells : Vector MgmtCell 4) {v : State} (hl : OnLoop v) {c : MgmtCell}
    (hc : addressedTo v.startUp.node c = true) :
    ∃ u, exec (rowOf c.code (cellRequest c)) (v.setPorts (endPorts f cells v.ports)) = .next u ∧
      ∀ cells', endOutbound f ((areaCell { state := v, reset := none } c).1, cells') =
        withOutput (some (regenerate { f with commands := cells' })) u := by
  have on : OnLoop (v.setPorts (endPorts f cells v.ports)) := hl
  by_cases hq : Config.queueCapacity ≤ v.mgmt.queue.length
  · rw [areaCell_declined hc hq]
    refine ⟨{ v.setPorts (endPorts f cells v.ports) with counters := counted 6 1 v.counters }, ?_, fun cells' => rfl⟩
    by_cases h14 : c.code = 14
    · rw [rowOf_reset h14, takeReset_declined on (by exact hq)]
      rfl
    · rw [exec_rowOf h14, takeCommand_declined on (by exact hq)]
      rfl
  · by_cases h14 : c.code = 14
    · rw [areaCell_reset hc hq h14, rowOf_reset h14, takeReset_of_quiet on rfl (by exact hq)]
      refine ⟨_, rfl, fun cells' => ?_⟩
      rw [← beginReset_withOutput]
      rfl
    · rw [areaCell_answered hc hq h14, exec_rowOf h14, takeCommand_of_free on (by exact hq),
        answerCommand_setPorts _ _ (decideCommand_ignoresPorts _ _)]
      refine ⟨_, rfl, fun cells' => ?_⟩
      have kept : (answerCommand c.code (cellRequest c) (decideCommand c.code (cellRequest c)) v).ports = v.ports := by
        simp [answerCommand]
      rw [endOutbound_eq, kept, beginReset_none, endPorts_output f cells' cells]

theorem areaCell_sent {v : State} {c : MgmtCell} (hc : addressedTo v.startUp.node c = true) :
    (areaCell { state := v, reset := none } c).2 =
      if Config.queueCapacity ≤ v.mgmt.queue.length then { c with head := c.head ||| 3 }
      else if cellDestination c = 15 then c else emptyCell := by
  by_cases hq : Config.queueCapacity ≤ v.mgmt.queue.length
  · rw [areaCell_declined hc hq, if_pos hq]
    rfl
  · rw [if_neg hq]
    by_cases h14 : c.code = 14
    · rw [areaCell_reset hc hq h14]; rfl
    · rw [areaCell_answered hc hq h14]; rfl

/-- The end of a passage without its last command cell, and with it. -/
theorem endOutbound_last (f : Frame) (cells : Vector MgmtCell 4) (k : Fin 4) {a : AreaStep} (hl : OnLoop a.state)
    {c : MgmtCell} (hc : addressedTo a.state.startUp.node c = true) :
    ∃ out, (endOutbound f (a, cells)).ports.outbOut = some out ∧
      let sent := fun (left : MgmtCell) (u : State) =>
        endOutbound f ((areaCell a c).1, cells.set k (areaCell a c).2) =
          withOutput (some (regenerate { out with commands := out.commands.set k left })) u
      ((endOutbound f (a, cells)).ports.lock = .locked →
        ∃ u, exec (rowOf c.code (cellRequest c)) (endOutbound f (a, cells)) = .next u ∧
          sent (if Config.queueCapacity ≤ (endOutbound f (a, cells)).mgmt.queue.length then { c with head := c.head ||| 3 }
            else if cellDestination c = 15 then c else emptyCell) u) ∧
      ((endOutbound f (a, cells)).ports.lock = .searching → sent c (endOutbound f (a, cells))) ∧
      (a.reset = none → (endOutbound f (a, cells)).ports.lock = .locked) := by
  refine ⟨regenerate { f with commands := cells }, beginReset_outbOut _ _, ?_⟩
  obtain ⟨v, k'⟩ := a
  cases k' with
  | none =>
    obtain ⟨u, row, whole⟩ := exec_rowOf_endOutbound f cells hl hc
    have locked : (endOutbound f (({ state := v, reset := none } : AreaStep), cells)).ports.lock = .locked := hl.2
    refine ⟨fun _ => ⟨u, row, ?_⟩, fun h => absurd (locked.symm.trans h) (by decide), fun _ => locked⟩
    rw [whole, areaCell_sent hc]
    rfl
  | some kind =>
    have searching : (endOutbound f (({ state := v, reset := some kind } : AreaStep), cells)).ports.lock = .searching :=
      beginReset_some_lock _ _
    refine ⟨fun h => absurd (searching.symm.trans h) (by decide), fun _ => ?_, fun h => by simp at h⟩
    rw [areaCell_of_reset rfl]
    exact endOutbound_commands rfl rfl _ _ _

/-! A frame with a last command cell for the part -/

/-- What a good frame in LOCKED has come to when its walk reaches command cell k. -/
def reachedCell (f : Frame) (k : Fin 4) (s : State) : AreaStep :=
  areaBefore 0 4 f.commands { state := (composeFrom 0 f (gapTested f s)).2, reset := none } k.val

/-- The command area that the frame without command cell k goes out with. -/
def areaWithout (f : Frame) (k : Fin 4) (s : State) : Vector MgmtCell 4 :=
  (takeFirst 4 (f.commands.set k emptyCell) (composeFrom 0 f (gapTested f s)).2).2

theorem reachedCell_startUp (f : Frame) (k : Fin 4) (s : State) : (reachedCell f k s).state.startUp = s.startUp := by
  rw [reachedCell, areaBefore_startUp, composeFrom_startUp, gapTested_startUp]

section
variable {f : Frame} {k : Fin 4} {s : State} (h : ∀ j : Fin 4, k < j → addressedTo s.startUp.node f.commands[j] = false)
include h

/-- The walk over the composed frame with cell k EMPTY, and the whole one. -/
theorem takeFirst_composed_without :
    (takeFirst 4 (f.commands.set k emptyCell) (composeFrom 0 f (gapTested f s)).2).1 = reachedCell f k s ∧
    takeFirst 4 f.commands (composeFrom 0 f (gapTested f s)).2 =
      ((areaCell (reachedCell f k s) f.commands[k]).1,
        (areaWithout f k s).set k (areaCell (reachedCell f k s) f.commands[k]).2) := by
  have node : (composeFrom 0 f (gapTested f s)).2.startUp = s.startUp := by rw [composeFrom_startUp, gapTested_startUp]
  rw [← node] at h
  obtain ⟨before, whole⟩ := takeFirst_without h
  exact ⟨before, Prod.ext (takeFirst_last h) whole⟩

theorem lockedOutbound_without :
    lockedOutbound (regenerate { f with commands := f.commands.set k emptyCell }) .atOnce s =
      endOutbound (composeFrom 0 f (gapTested f s)).1 (reachedCell f k s, areaWithout f k s) := by
  rw [lockedOutbound_regenerate, ← (takeFirst_composed_without h).1, areaWithout]

theorem lockedOutbound_last :
    lockedOutbound f .atOnce s =
      endOutbound (composeFrom 0 f (gapTested f s)).1
        ((areaCell (reachedCell f k s) f.commands[k]).1,
          (areaWithout f k s).set k (areaCell (reachedCell f k s) f.commands[k]).2) := by
  rw [lockedOutbound_atOnce, finishOutbound, composeFrom_commands, (takeFirst_composed_without h).2]

theorem reachedCell_onLoop (hl : OnLoop s) : OnLoop (reachedCell f k s).state := by
  rw [← (takeFirst_composed_without h).1]
  exact (gapTested_onLoop hl f).of_ports (by simp)

end

/-- Settles O11. -/
theorem commandCellsRunTheirRows : Obligations.CommandCellsRunTheirRows := by
  intro f k s hq hl hf hk hbehind
  have good : goodCheck (regenerate { f with commands := f.commands.set k emptyCell }) = true := by
    rw [goodCheck_regenerate]
    exact (Bool.and_eq_true_iff.1 hf).1
  obtain ⟨out, hout, hlocked, hsearching, hnone⟩ := endOutbound_last (composeFrom 0 f (gapTested f s)).1 (areaWithout f k s) k
    (reachedCell_onLoop hbehind hl) (c := f.commands[k]) (by rw [reachedCell_startUp]; exact hk)
  have without := (exec_outboundFrame_good hq hl good .atOnce).trans (congrArg _ (lockedOutbound_without hbehind))
  have whole := (exec_outboundFrame_good hq hl hf .atOnce).trans (congrArg _ (lockedOutbound_last hbehind))
  refine ⟨_, out, without, hout, fun hlock => ?_, fun hlock => whole.trans (congrArg _ (hsearching hlock)),
    fun h => hnone ?_⟩
  · obtain ⟨u, row, sent⟩ := hlocked hlock
    exact ⟨u, row, whole.trans (congrArg _ sent)⟩
  · refine areaBefore_reset_none k.val fun j hj had => h j hj ?_
    rwa [composeFrom_startUp, gapTested_startUp] at had

end Sys2Proof.Machine
end

section
/-! PROOFS. What a frame boundary leaves alone in every block, and the sources it raises (R16, R163). -/

namespace Sys2Proof.Machine

/-! What the reactions to a boundary keep -/

/-- The counters that count no reaction to a boundary (R168). -/
def offBoundaryCounters : List (Fin 10) := [0, 1, 2, 3, 6, 8]

/-- The sources that a boundary can raise (R163). -/
def boundarySources : List (Fin 16) := [1, 4, 5, 6, 8, 11, 12, 13, 15]

/-- From s to t only what a frame boundary may change has changed: limits, Mute Set, Alert Map, stored profile and the counters of
other events stay, and pending sources stay and only those of a boundary join. -/
structure BoundaryKeeps (s t : State) : Prop where
  params : t.limit.params = s.limit.params
  muteSet : t.limit.muteSet = s.limit.muteSet
  map : t.alerts.map = s.alerts.map
  image : t.profile.image = s.profile.image
  crc : t.profile.crc = s.profile.crc
  found : t.profile.found = s.profile.found
  counters : ∀ c ∈ offBoundaryCounters, t.counters[c] = s.counters[c]
  stays : ∀ n : Fin 16, s.alerts.pending.getLsbD n = true → t.alerts.pending.getLsbD n = true
  joins : ∀ n : Fin 16, t.alerts.pending.getLsbD n = true → s.alerts.pending.getLsbD n = true ∨ n ∈ boundarySources

theorem BoundaryKeeps.trans {s t u : State} (h : BoundaryKeeps s t) (k : BoundaryKeeps t u) : BoundaryKeeps s u where
  params := k.params.trans h.params
  muteSet := k.muteSet.trans h.muteSet
  map := k.map.trans h.map
  image := k.image.trans h.image
  crc := k.crc.trans h.crc
  found := k.found.trans h.found
  counters c hc := (k.counters c hc).trans (h.counters c hc)
  stays n hn := k.stays n (h.stays n hn)
  joins n hn := (k.joins n hn).elim (h.joins n) .inr

/-- A reaction that raises and counts nothing, and keeps limits, Mute Set and stored profile. -/
theorem BoundaryKeeps.of_eq {s t : State} (params : t.limit.params = s.limit.params)
    (muteSet : t.limit.muteSet = s.limit.muteSet) (alerts : t.alerts = s.alerts) (counters : t.counters = s.counters)
    (image : t.profile.image = s.profile.image) (crc : t.profile.crc = s.profile.crc)
    (found : t.profile.found = s.profile.found) : BoundaryKeeps s t where
  params := params
  muteSet := muteSet
  map := by rw [alerts]
  image := image
  crc := crc
  found := found
  counters c _ := by rw [counters]
  stays n hn := by rwa [alerts]
  joins n hn := .inl (by rwa [alerts] at hn)

theorem BoundaryKeeps.refl (s : State) : BoundaryKeeps s s := .of_eq rfl rfl rfl rfl rfl rfl rfl

/-- A source is pending behind a raise when it was pending or is the one raised (R163). -/
theorem pending_raiseAlert (a : AlertSource) (s : State) (n : Fin 16) :
    (raiseAlert a s).alerts.pending.getLsbD n = true ↔ s.alerts.pending.getLsbD n = true ∨ n = sourceNumber a := by
  have one : ((1 : Word) <<< (sourceNumber a).val).getLsbD n = true ↔ n = sourceNumber a := by
    have := n.isLt
    rw [BitVec.getLsbD_shiftLeft, Fin.ext_iff]
    simp only [show (1 : Word) = 1#16 from rfl, BitVec.getLsbD_one, Bool.and_eq_true, decide_eq_true_eq, Bool.not_eq_true', decide_eq_false_iff_not]
    omega
  change (s.alerts.pending ||| (1 : Word) <<< (sourceNumber a).val).getLsbD n = true ↔ _
  rw [BitVec.getLsbD_or, Bool.or_eq_true, one]

theorem BoundaryKeeps.raise {a : AlertSource} (h : sourceNumber a ∈ boundarySources) (s : State) :
    BoundaryKeeps s (raiseAlert a s) where
  params := rfl
  muteSet := rfl
  map := rfl
  image := rfl
  crc := rfl
  found := rfl
  counters _ _ := rfl
  stays n hn := (pending_raiseAlert a s n).2 (.inl hn)
  joins n hn := by
    rcases (pending_raiseAlert a s n).1 hn with hs | rfl
    · exact .inl hs
    · exact .inr h

theorem BoundaryKeeps.raiseIf {a : AlertSource} (h : sourceNumber a ∈ boundarySources) (b : Bool) (s : State) :
    BoundaryKeeps s (raiseIf b a s) := by
  cases b
  · exact .refl s
  · exact .raise h s

theorem BoundaryKeeps.bump {c : CounterId} (h : counterItem c ∉ offBoundaryCounters) (n : Nat) (s : State) :
    BoundaryKeeps s (bump c n s) where
  params := rfl
  muteSet := rfl
  map := rfl
  image := rfl
  crc := rfl
  found := rfl
  counters d hd := by
    have hne : (counterItem c).val ≠ d.val := fun e => h (Fin.ext e ▸ hd)
    simp [bump_eq, counted, hne]
  stays _ hn := hn
  joins _ hn := .inl hn

/-! One block changed -/

theorem setPorts_keeps (s : State) (x : LoopPorts) : BoundaryKeeps s (s.setPorts x) := .of_eq rfl rfl rfl rfl rfl rfl rfl
theorem setSlots_keeps (s : State) (x : SlotUnit) : BoundaryKeeps s (s.setSlots x) := .of_eq rfl rfl rfl rfl rfl rfl rfl
theorem setIntake_keeps (s : State) (x : Intake) : BoundaryKeeps s (s.setIntake x) := .of_eq rfl rfl rfl rfl rfl rfl rfl
theorem setBanks_keeps (s : State) (x : BankUnit) : BoundaryKeeps s (s.setBanks x) := .of_eq rfl rfl rfl rfl rfl rfl rfl
theorem setCoupling_keeps (s : State) (x : Coupling) : BoundaryKeeps s (s.setCoupling x) :=
  .of_eq rfl rfl rfl rfl rfl rfl rfl
theorem setPool_keeps (s : State) (x : List Pulse) : BoundaryKeeps s (s.setPool x) := .of_eq rfl rfl rfl rfl rfl rfl rfl
theorem setMgmt_keeps (s : State) (x : Management) : BoundaryKeeps s (s.setMgmt x) := .of_eq rfl rfl rfl rfl rfl rfl rfl
theorem setCapture_keeps (s : State) (x : Capture) : BoundaryKeeps s (s.setCapture x) := .of_eq rfl rfl rfl rfl rfl rfl rfl

theorem setLimit_keeps (s : State) {x : LimitMonitor} (params : x.params = s.limit.params)
    (muteSet : x.muteSet = s.limit.muteSet) : BoundaryKeeps s (s.setLimit x) := .of_eq params muteSet rfl rfl rfl rfl rfl

theorem setProfile_keeps (s : State) {x : ProfileStore} (image : x.image = s.profile.image) (crc : x.crc = s.profile.crc)
    (found : x.found = s.profile.found) : BoundaryKeeps s (s.setProfile x) := .of_eq rfl rfl rfl rfl image crc found

/-! The reactions, in the order of log 6 -/

theorem completeItems_keeps (s : State) : BoundaryKeeps s (completeItems s) := by
  unfold completeItems
  simp only []
  split
  · exact .refl s
  · split
    · exact (setCapture_keeps s _).trans (.raiseIf (by decide) _ _)
    · exact setCapture_keeps s _

theorem overrunPass_keeps (s : State) : BoundaryKeeps s (overrunPass s) := by
  unfold overrunPass
  split
  · exact ((setCoupling_keeps s _).trans (.bump (by decide) 1 _)).trans (completeItems_keeps _)
  · exact .refl s

theorem evaluateSlots_keeps (f : Frame) (s : State) : BoundaryKeeps s (evaluateSlots f s) := by
  unfold evaluateSlots
  exact ((setPool_keeps s _).trans (setSlots_keeps _ _)).trans (.raiseIf (by decide) _ _)

theorem giveEntries_keeps (f : Frame) (before : SlotUnit) (s : State) : BoundaryKeeps s (giveEntries f before s) := by
  unfold giveEntries
  exact (setIntake_keeps s _).trans (.bump (by decide) _ _)

theorem enterShock_keeps (m : ChosenMode) (s : State) : BoundaryKeeps s (enterShock m s) := by
  unfold enterShock
  exact ((setLimit_keeps s (by rfl) (by rfl)).trans (.bump (by decide) 1 _)).trans
    (.raise (by decide) _)

theorem exitShock_keeps (s : State) : BoundaryKeeps s (exitShock s) := by
  unfold exitShock flushAll
  exact ((setLimit_keeps s (by rfl) (by rfl)).trans (setIntake_keeps _ _)).trans (.raise (by decide) _)

theorem limitBoundary_keeps (n : Nat) (s : State) : BoundaryKeeps s (limitBoundary n s) := by
  unfold limitBoundary
  simp only []
  split
  · split
    · exact enterShock_keeps _ s
    · exact setLimit_keeps s (by rfl) (by rfl)
  · split
    · exact setLimit_keeps s (by rfl) (by rfl)
    · split
      · exact exitShock_keeps s
      · exact setLimit_keeps s (by rfl) (by rfl)

theorem boundaryIntake_keeps (f : Frame) (s : State) : BoundaryKeeps s (boundaryIntake f s) := by
  unfold boundaryIntake
  exact (((overrunPass_keeps s).trans (evaluateSlots_keeps f _)).trans (giveEntries_keeps f _ _)).trans
    (limitBoundary_keeps _ _)

theorem validationStep_keeps (s : State) : BoundaryKeeps s (validationStep s) := by
  unfold validationStep
  simp only []
  split
  · exact (setBanks_keeps s _).trans (.raise (by decide) _)
  · split <;> exact setBanks_keeps s _

theorem copyStep_keeps (s : State) : BoundaryKeeps s (copyStep s) := by
  unfold copyStep endCopy
  simp only []
  split
  · exact ((setBanks_keeps s _).trans (setBanks_keeps _ _)).trans (.raise (by decide) _)
  · exact setBanks_keeps s _

theorem swapLevels_params (l : LimitMonitor) : (swapLevels l).params = l.params := by simp only [swapLevels]

theorem swapLevels_muteSet (l : LimitMonitor) : (swapLevels l).muteSet = l.muteSet := by simp only [swapLevels]

theorem engineBoundary_keeps (s : State) : BoundaryKeeps s (engineBoundary s) := by
  unfold engineBoundary
  split
  · exact .refl s
  · exact validationStep_keeps s
  · unfold swapBanks
    exact (setBanks_keeps s _).trans (setLimit_keeps _ (swapLevels_params s.limit) (swapLevels_muteSet s.limit))
  · exact copyStep_keeps s

theorem pulseBoundary_keeps (m : Word) (notices : List Notice) (s : State) :
    BoundaryKeeps s (pulseBoundary m notices s) := by
  unfold pulseBoundary
  exact ((setPool_keeps s _).trans (.bump (by decide) _ _)).trans (.raiseIf (by decide) _ _)

theorem startPass_keeps (m : Word) (s : State) : BoundaryKeeps s (startPass m s) := by
  unfold startPass
  exact setCoupling_keeps s _

theorem leaseBoundary_keeps (s : State) : BoundaryKeeps s (leaseBoundary s) := by
  unfold leaseBoundary
  exact (setMgmt_keeps s _).trans (.raiseIf (by decide) _ _)

theorem captureBoundary_keeps (m : Word) (reports : List NoticeReport) (shockEntry : Bool) (s : State) :
    BoundaryKeeps s (captureBoundary m reports shockEntry s) := by
  unfold captureBoundary
  simp only []
  generalize (if s.capture.state = .armed ∧ triggerHit s.capture.trigger reports shockEntry = true then fireTrigger s.capture
    else s.capture) = c
  split
  · split
    · exact setCapture_keeps s _
    · exact (setCapture_keeps s _).trans (completeItems_keeps _)
  · exact .refl s

theorem persistBoundary_keeps (s : State) : BoundaryKeeps s (persistBoundary s) := by
  unfold persistBoundary
  split
  · exact .refl s
  · split
    · exact (setProfile_keeps s (by rfl) (by rfl) (by rfl)).trans (.raise (by decide) _)
    · exact setProfile_keeps s (by rfl) (by rfl) (by rfl)

theorem frameBoundary_keeps (f : Frame) (s : State) : BoundaryKeeps s (frameBoundary f s) := by
  unfold frameBoundary
  exact ((((((boundaryIntake_keeps f s).trans (engineBoundary_keeps _)).trans (pulseBoundary_keeps _ _ _)).trans
    (startPass_keeps _ _)).trans (leaseBoundary_keeps _)).trans (captureBoundary_keeps _ _ _ _)).trans
    (persistBoundary_keeps _)

theorem matchedReturn_keeps (f : Frame) (s : State) : BoundaryKeeps s (matchedReturn f s) := by
  unfold matchedReturn
  exact ((setPorts_keeps s _).trans (setMgmt_keeps _ _)).trans (frameBoundary_keeps f _)

/-- Settles O15. -/
theorem boundaryKeepsTheRest : Obligations.BoundaryKeepsTheRest := by
  intro f s hm
  have h := matchedReturn_keeps f s
  exact ⟨matchedReturn f s, exec_returnFrame_matching f s hm, by simp [matchedReturn], by simp, h.params, h.muteSet, h.map,
    h.image, h.crc, h.found, h.counters, h.stays, h.joins⟩

end Sys2Proof.Machine
end

section
/-! SUPPORT. When the Slot Map unit and the Profile Store obey R21 and R27, and what keeps them so. -/

namespace Sys2Proof.Machine

/-! The Slot Map unit -/

/-- A Slot Map unit whose map obeys R21 and whose runtime records obey R27. -/
structure UnitLawful (u : SlotUnit) : Prop where
  map : MapInjective u.map
  records : ∀ t : Slot, SettleCountLawful u.records[t]

theorem settleCountLawful_initial : SettleCountLawful SlotRecord.initial := rfl

/-- The initial records over any injective map are lawful (R35, R36). -/
theorem unitLawful_initialRecords {m : Vector (Option (Fin 64)) 64} (h : MapInjective m) (targets : SlotSet) :
    UnitLawful { map := m, targets := targets, records := Vector.replicate 64 SlotRecord.initial } where
  map := h
  records t := by simpa using settleCountLawful_initial

/-- One record replaced by a lawful one. -/
theorem UnitLawful.setRecord {u : SlotUnit} (h : UnitLawful u) (t : Slot) {r : SlotRecord} (hr : SettleCountLawful r) :
    UnitLawful { u with records := u.records.set t r } where
  map := h.map
  records v := by
    simp only [Fin.getElem_fin, Vector.getElem_set]
    split
    · exact hr
    · exact h.records v

theorem cellTaken_iff (m : Vector (Option (Fin 64)) 64) (t : Slot) (c : Fin 64) :
    cellTaken m t (some c) = true ↔ ∃ w : Slot, w ≠ t ∧ m[w] = some c := by
  simp [cellTaken]

/-- An injective map stays so when a slot is mapped to a cell no other slot has, or unmapped (R22). -/
theorem MapInjective.set {m : Vector (Option (Fin 64)) 64} (h : MapInjective m) {t : Slot} {c : Option (Fin 64)}
    (hc : cellTaken m t c = false) : MapInjective (m.set t c) := by
  have free : ∀ (w : Slot) (x : Fin 64), w ≠ t → c = some x → m[w] ≠ some x := by
    rintro w x hw rfl hm
    exact Bool.false_ne_true (hc.symm.trans ((cellTaken_iff m t x).2 ⟨w, hw, hm⟩))
  intro a b x ha hb
  simp only [Fin.getElem_fin, Vector.getElem_set, Fin.val_inj] at ha hb
  split at ha <;> split at hb
  · next hta htb => exact hta.symm.trans htb
  · next _ htb => exact absurd hb (free b x (Ne.symm htb) ha)
  · next hta _ => exact absurd ha (free a x (Ne.symm hta) hb)
  · exact h a b x ha hb

theorem UnitLawful.setMap {u : SlotUnit} (h : UnitLawful u) {t : Slot} {c : Option (Fin 64)}
    (hc : cellTaken u.map t c = false) : UnitLawful { u with map := u.map.set t c } where
  map := h.map.set hc
  records := h.records

/-- One boundary keeps a record lawful: the settle count starts at 256 and goes down by one (R28, R30). -/
theorem settleCountLawful_evaluateRecord (present : Bool) {r : SlotRecord} (h : SettleCountLawful r) :
    SettleCountLawful (evaluateRecord present r) := by
  obtain ⟨state, settle⟩ := r
  cases state <;> cases present
  case settling.true =>
    obtain ⟨hlow, hhigh⟩ : 1 ≤ settle ∧ settle ≤ Config.settlePeriod := h
    by_cases hlast : settle ≤ 1
    · simp [evaluateRecord, settleStep, hlast, SettleCountLawful]
    · simp only [evaluateRecord, settleStep, hlast, if_false, SettleCountLawful]
      omega
  case detached.true =>
    exact show 1 ≤ Config.settlePeriod ∧ Config.settlePeriod ≤ Config.settlePeriod from ⟨by decide, le_rfl⟩
  case settling.false | attached.false => exact settleCountLawful_initial
  case detached.false | attached.true => exact h

theorem evaluateSlots_slots (f : Frame) (s : State) :
    (evaluateSlots f s).slots = { s.slots with records := evaluatedRecords f s.slots } := by
  simp [evaluateSlots]

theorem evaluatedRecords_get (f : Frame) (u : SlotUnit) (t : Slot) :
    (evaluatedRecords f u)[t] = evaluateRecord (sledPresent f u.map t) u.records[t] := by simp [evaluatedRecords]

theorem UnitLawful.evaluate {u : SlotUnit} (h : UnitLawful u) (f : Frame) :
    UnitLawful { u with records := evaluatedRecords f u } := by
  refine ⟨h.map, fun t => ?_⟩
  rw [evaluatedRecords_get]
  exact settleCountLawful_evaluateRecord _ (h.records t)

theorem remap_slots (t : Slot) (c : Option (Fin 64)) (s : State) :
    (remap t c s).slots =
      if s.slots.records[t].state = .detached then { s.slots with map := s.slots.map.set t c }
      else { s.slots with map := s.slots.map.set t c, records := s.slots.records.set t SlotRecord.initial } := by
  unfold remap
  simp only []
  split
  · rfl
  · rw [(detachSlot_spec t _).1, State.slots_setSlots]

theorem UnitLawful.remap {s : State} (h : UnitLawful s.slots) {t : Slot} {c : Option (Fin 64)}
    (hc : cellTaken s.slots.map t c = false) : UnitLawful (remap t c s).slots := by
  rw [remap_slots]
  split
  · exact h.setMap hc
  · exact (h.setMap hc).setRecord t settleCountLawful_initial

/-! The Profile Store -/

/-- A Profile Store whose stored map and whose snapshot obey R21. -/
structure StoreLawful (p : ProfileStore) : Prop where
  image : ∀ im, p.image = some im → MapInjective im.slotMap
  running : ∀ x, p.running = some x → MapInjective x.snapshot.slotMap

/-- The end of a PERSIST leaves what is stored, or stores the snapshot. -/
theorem StoreLawful.end {p q : ProfileStore} (h : StoreLawful p) (hi : q.image = p.image) (hr : q.running = none) :
    StoreLawful q where
  image im hq := h.image im (hi.symm.trans hq)
  running x hx := by simp [hr] at hx

theorem StoreLawful.endPersist {p : ProfileStore} (h : StoreLawful p) : StoreLawful (endPersist p) := by
  rw [endPersist_eq]
  split
  · exact h.end rfl rfl
  · exact h

theorem StoreLawful.goodImage {p : ProfileStore} (h : StoreLawful p) {im : ProfileImage} (hg : goodImage p = some im) :
    MapInjective im.slotMap := h.image im (goodImage_eq_some.1 hg).2.1

/-! The part -/

/-- The Slot Map unit and the Profile Store obey R21 and R27. -/
def SlotsLawful (s : State) : Prop := UnitLawful s.slots ∧ StoreLawful s.profile

theorem slotsLawful_iff (s : State) : SlotsLawful s ↔ MapsLawful s ∧ RecordsLawful s :=
  ⟨fun ⟨u, p⟩ => ⟨⟨u.map, p.image, p.running⟩, u.records⟩, fun ⟨⟨m, i, r⟩, c⟩ => ⟨⟨m, c⟩, ⟨i, r⟩⟩⟩

theorem SlotsLawful.congr {s t : State} (h : SlotsLawful s) (hu : t.slots = s.slots) (hp : t.profile = s.profile) :
    SlotsLawful t := by
  unfold SlotsLawful
  rwa [hu, hp]

theorem SlotsLawful.withUnit {s t : State} (h : SlotsLawful s) (hu : UnitLawful t.slots) (hp : t.profile = s.profile) :
    SlotsLawful t := ⟨hu, hp ▸ h.2⟩

theorem SlotsLawful.withStore {s t : State} (h : SlotsLawful s) (hu : t.slots = s.slots) (hp : StoreLawful t.profile) :
    SlotsLawful t := ⟨hu ▸ h.1, hp⟩

end Sys2Proof.Machine
end

section
/-! PROOFS. Every step keeps the Slot Map injective and the settle counts in range (R21, R27). -/

namespace Sys2Proof.Machine

/-! Commands -/

theorem writeSlotmap_slotsLawful (r : Request) {s : State} (h : SlotsLawful s) : SlotsLawful (writeSlotmap r s).1 := by
  refine h.withUnit ?_ (writeSlotmap_profile r s)
  unfold writeSlotmap configWrite
  split
  · exact h.1
  · split
    · exact h.1
    · next v hv =>
      simp only [acceptWrite_slots]
      unfold editSlotmap at hv
      simp only [] at hv
      split at hv
      · simp at hv
      · split at hv
        · obtain rfl : s = v := by simpa using hv
          exact h.1
        · split at hv
          · simp at hv
          · next hc =>
            obtain rfl := Option.some.inj hv
            exact h.1.remap (by simpa using hc)

theorem writeTargets_slotsLawful (r : Request) {s : State} (h : SlotsLawful s) : SlotsLawful (writeTargets r s).1 := by
  refine h.withUnit ?_ (writeTargets_profile r s)
  unfold writeTargets configWrite
  split
  · exact h.1
  · exact ⟨h.1.map, h.1.records⟩

theorem decideData_slotsLawful (r : Request) {s : State} (h : SlotsLawful s) : SlotsLawful (decideData r s).1 := by
  unfold decideData
  simp only []
  split
  · split
    · split <;> exact h.congr (by simp [writeCtAdd, writeCtReplace]) (by simp [writeCtAdd, writeCtReplace])
    · split <;> exact h.congr (by simp [writeKernelAdd, writeKernelReplace]) (by simp [writeKernelAdd, writeKernelReplace])
    · exact h.congr (by simp [writeTemplate]) (by simp [writeTemplate])
    · exact writeSlotmap_slotsLawful r h
    · exact writeTargets_slotsLawful r h
    · exact h.congr (by simp) (by simp)
    · exact h.congr (by simp) (by simp)
    · exact h.congr (by simp) (by simp)
    all_goals exact h
  · exact h

theorem decidePersist_slotsLawful (r : Request) {s : State} (h : SlotsLawful s) : SlotsLawful (decidePersist r s).1 := by
  refine h.withStore (decidePersist_slots r s) ?_
  unfold decidePersist
  split
  · exact h.2
  · split
    · exact h.2
    · refine ⟨fun im hi => by simp at hi, fun x hx => ?_⟩
      obtain rfl := Option.some.inj hx
      exact h.1.map

theorem decideCommand_slotsLawful (code : Byte) (r : Request) {s : State} (h : SlotsLawful s) :
    SlotsLawful (decideCommand code r s).1 := by
  have keeps : ∀ {t : State}, t.slots = s.slots → t.profile = s.profile → SlotsLawful t := h.congr
  exact decideCommand_preserves SlotsLawful code r s (keeps (by simp) (by simp)) (keeps (by simp) (by simp))
    (keeps (by simp) (by simp)) (keeps (by simp) (by simp)) (decideData_slotsLawful r h) (keeps (by simp) (by simp))
    (keeps (by simp) (by simp)) (keeps (by simp) (by simp)) (keeps (by simp) (by simp)) (keeps (by simp) (by simp))
    (keeps (by simp) (by simp)) (decidePersist_slotsLawful r h) (keeps (by simp) (by simp)) h

theorem answerCommand_slotsLawful (sent decided : Byte) (r : Request) {s : State} (h : SlotsLawful s) :
    SlotsLawful (answerCommand sent r (decideCommand decided r) s) :=
  SlotsLawful.congr (decideCommand_slotsLawful decided r (h.congr (renewLeases_slots r s) (renewLeases_profile r s))) rfl rfl

theorem takeCommand_slotsLawful (sent decided : Byte) (r : Request) {s : State} (h : SlotsLawful s) :
    SlotsLawful (takeCommand sent r (decideCommand decided r) s) := by
  unfold takeCommand
  split
  · split
    · exact answerCommand_slotsLawful sent decided r h
    · exact h
  · exact h

theorem areaCell_slotsLawful (a : AreaStep) (c : MgmtCell) (h : SlotsLawful a.state) :
    SlotsLawful (areaCell a c).1.state := by
  rcases areaCell_cases a c with ha | ⟨-, ha⟩ | ⟨-, k, ha⟩ | ⟨-, -, ha⟩ <;> rw [ha]
  · exact h
  · exact h
  · exact h
  · exact answerCommand_slotsLawful c.code c.code (cellRequest c) h

theorem takeCells_slotsLawful (lo hi : Nat) (cells : Vector MgmtCell 4) (a : AreaStep) (h : SlotsLawful a.state) :
    SlotsLawful (takeCells lo hi cells a).1.state :=
  takeCells_preserves (fun a => SlotsLawful a.state) areaCell_slotsLawful lo hi cells a h

/-! Resets and the end of a passage -/

theorem coldStart_slotsLawful (u : StartUp) {s : State} (h : StoreLawful s.profile) : SlotsLawful (coldStart u s) := by
  have stored := h.endPersist
  cases hg : goodImage (endPersist s.profile) with
  | some im =>
    rw [coldStart_of_good hg]
    exact ⟨unitLawful_initialRecords (stored.goodImage hg) im.targets, stored.end rfl (endPersist_running s.profile)⟩
  | none =>
    rw [coldStart_of_none hg]
    exact ⟨unitLawful_initialRecords mapInjective_identity _, stored.end rfl (endPersist_running s.profile)⟩

theorem warmActions_slotsLawful (k : ResetReason) (c : PortCondition) {s : State} (h : SlotsLawful s) :
    SlotsLawful (warmActions k c s) :=
  ⟨unitLawful_initialRecords h.1.map s.slots.targets, h.2.endPersist⟩

theorem beginReset_slotsLawful (k : Option ResetKind) {s : State} (h : SlotsLawful s) : SlotsLawful (beginReset k s) :=
  beginReset_of_some (fun _ => h) (coldStart_slotsLawful _ h.2) (warmActions_slotsLawful _ _ h)

theorem endPassage_slotsLawful {s : State} (h : SlotsLawful s) : SlotsLawful (endPassage s) :=
  beginReset_slotsLawful _ (h.congr (cutPassage_slots s) (cutPassage_profile s))

theorem loseLock_slotsLawful {s : State} (h : SlotsLawful s) : SlotsLawful (loseLock s) :=
  (endPassage_slotsLawful h).congr (loseLock_slots s) (loseLock_profile s)

theorem endOutbound_slotsLawful (f : Frame) {a : AreaStep × Vector MgmtCell 4} (h : SlotsLawful a.1.state) :
    SlotsLawful (endOutbound f a) :=
  beginReset_slotsLawful a.1.reset (h.congr rfl rfl)

/-! Frames -/

theorem SlotsLawful.compose {s : State} (h : SlotsLawful s) (n : Nat) (f : Frame) : SlotsLawful (composeFrom n f s).2 :=
  h.congr (composeFrom_slots n f s) (composeFrom_profile n f s)

theorem takeFirst_slotsLawful (k : Nat) (cells : Vector MgmtCell 4) {s : State} (h : SlotsLawful s) :
    SlotsLawful (takeFirst k cells s).1.state := takeCells_slotsLawful 0 k cells _ h

theorem finishPassage_slotsLawful {s : State} (h : SlotsLawful s) : SlotsLawful (finishPassage s) := by
  unfold finishPassage
  split
  · exact h
  · exact endOutbound_slotsLawful _ (takeCells_slotsLawful _ _ _ _ (h.compose _ _))

theorem gapTested_profile (f : Frame) (s : State) : (gapTested f s).profile = s.profile := by
  unfold gapTested; split <;> simp

theorem lockedOutbound_slotsLawful (f : Frame) (m : Composition) {s : State} (h : SlotsLawful s) :
    SlotsLawful (lockedOutbound f m s) := by
  have tested : SlotsLawful (gapTested f s) := h.congr (gapTested_slots f s) (gapTested_profile f s)
  cases m with
  | atOnce =>
    rw [lockedOutbound_atOnce]
    exact endOutbound_slotsLawful _ (takeFirst_slotsLawful _ _ (tested.compose 0 f))
  | cut k =>
    rw [lockedOutbound_cut]
    exact endOutbound_slotsLawful _ (takeFirst_slotsLawful _ _ (tested.compose 0 f))
  | byCell =>
    rw [lockedOutbound_byCell]
    exact tested.congr rfl rfl

theorem badOutbound_slotsLawful {s : State} (h : SlotsLawful s) : SlotsLawful (badOutbound s) := by
  unfold badOutbound
  simp only []
  split
  · exact loseLock_slotsLawful (h.congr rfl rfl)
  · exact h

theorem outboundFrame_slotsLawful {f : Frame} {b : PassageStart} {m : Composition} {s t : State} (hs : SlotsLawful s)
    (h : exec (.outboundFrame f b m) s = .next t) : SlotsLawful t := by
  have finished := finishPassage_slotsLawful hs
  have forwarded : SlotsLawful (forwardOutbound f (finishPassage s)) := finished.congr rfl rfl
  simp only [exec, execOutboundFrame] at h
  split at h
  · cases h; exact hs
  · split at h
    · cases h; exact forwarded
    · split at h
      · cases h; exact forwarded.congr (searchOutbound_slots f _) (searchOutbound_profile f _)
      · split at h <;> cases h
        · exact lockedOutbound_slotsLawful f m finished
        · exact badOutbound_slotsLawful forwarded

theorem persistBoundary_storeLawful {s : State} (h : StoreLawful s.profile) : StoreLawful (persistBoundary s).profile := by
  unfold persistBoundary
  split
  · exact h
  · next p hp =>
    split
    · exact h.end rfl rfl
    · refine ⟨h.image, fun x hx => ?_⟩
      obtain rfl := Option.some.inj hx
      exact h.running p hp

theorem boundaryIntake_slots (f : Frame) (s : State) :
    (boundaryIntake f s).slots = { s.slots with records := evaluatedRecords f s.slots } := by
  simp [boundaryIntake, evaluateSlots_slots]

/-- Behind the slot evaluation no reaction to a boundary touches the Slot Map unit. -/
theorem matchedReturn_slots (f : Frame) (s : State) :
    (matchedReturn f s).slots = { s.slots with records := evaluatedRecords f s.slots } := by
  simp [matchedReturn, frameBoundary, boundaryIntake_slots]

theorem matchedReturn_slotsLawful (f : Frame) {s : State} (h : SlotsLawful s) : SlotsLawful (matchedReturn f s) := by
  refine ⟨?_, ?_⟩
  · rw [matchedReturn_slots]; exact h.1.evaluate f
  · unfold matchedReturn frameBoundary
    exact persistBoundary_storeLawful (by simpa using h.2)

theorem returnFrame_slotsLawful {f : Frame} {p : ReturnPassage} {s t : State} (hs : SlotsLawful s)
    (h : exec (.returnFrame f p) s = .next t) : SlotsLawful t := by
  have received : SlotsLawful (receivedReturn f s) := by
    have failed : ∀ c, SlotsLawful (failedReturn c f s) := fun c =>
      hs.congr (failedReturn_slots c f s) (failedReturn_profile c f s)
    unfold receivedReturn
    split
    · exact failed _
    · split
      · exact matchedReturn_slotsLawful f hs
      · exact failed _
  simp only [exec, execReturnFrame] at h
  split at h
  · cases h; exact hs
  · split at h
    · cases h; exact hs.congr rfl rfl
    · split at h
      · cases h; split <;> exact hs.congr rfl rfl
      all_goals cases h; exact received

theorem outboundCellArrival_slotsLawful {s t : State} (hs : SlotsLawful s) (h : exec .outboundCellArrival s = .next t) :
    SlotsLawful t := by
  simp only [exec, execOutboundCellArrival] at h
  split at h
  · cases h; exact hs
  · next c _ =>
    split at h <;> cases h
    · exact hs.congr (by simp) (by simp)
    · have arrived := areaCell_slotsLawful { state := s, reset := c.reset }
        c.frame.commands[Fin.ofNat 4 (c.next - c.frame.used.toNat)] hs
      unfold arriveCommand
      simp only []
      split
      · exact arrived.congr rfl rfl
      · exact endOutbound_slotsLawful _ arrived

/-! Power and resets -/

theorem takeReset_slotsLawful (k : ResetKind) (r : Request) {s : State} (h : SlotsLawful s) :
    SlotsLawful (takeReset k r s) := by
  unfold takeReset
  split
  · split
    · exact beginReset_slotsLawful _ (h.congr (by simp) (by simp))
    · exact h
  · exact h

theorem rstNFall_slotsLawful {s t : State} (hs : SlotsLawful s) (h : exec .rstNFall s = .next t) : SlotsLawful t := by
  simp only [exec, execRstNFall] at h
  split at h <;> cases h
  · have ended := endPassage_slotsLawful hs
    exact ⟨ended.1, ended.2.endPersist⟩
  · exact hs

theorem rstNRise_slotsLawful {x : Straps} {s t : State} (hs : SlotsLawful s) (h : exec (.rstNRise x) s = .next t) :
    SlotsLawful t := by
  simp only [exec, execRstNRise] at h
  split at h
  · cases h; exact hs
  · split at h <;> cases h
    · exact hs.congr rfl rfl
    · exact coldStart_slotsLawful _ hs.2
    · exact warmActions_slotsLawful _ _ (hs.congr rfl rfl)
    · exact warmActions_slotsLawful _ _ (hs.congr rfl rfl)

theorem unpower_slotsLawful {s : State} (h : StoreLawful s.profile) : SlotsLawful (unpower s) :=
  ⟨unitLawful_initialRecords mapInjective_identity _, h.endPersist.end rfl (endPersist_running s.profile)⟩

theorem powerUp_slotsLawful {x : Straps} {high : Bool} {s t : State} (hs : SlotsLawful s)
    (h : exec (.powerUp x high) s = .next t) : SlotsLawful t := by
  have off := unpower_slotsLawful hs.2
  simp only [exec, execPowerUp] at h
  split at h <;> cases h
  · exact coldStart_slotsLawful _ off.2
  · exact off.congr rfl rfl

/-! Ends of spans and of self-timed work -/

theorem settleEnd_slotsLawful {u : Slot} {s t : State} (hs : SlotsLawful s) (h : exec (.settleEnd u) s = .next t) :
    SlotsLawful t := by
  rw [exec, execSettleEnd, Host.Outcome.next.injEq] at h
  subst h
  split
  · exact hs.withUnit (hs.1.setRecord u rfl) rfl
  · exact hs

theorem finishPersist_slotsLawful (p : PersistRun) (o : ReadBack) {s : State} (h : SlotsLawful s)
    (hp : s.profile.running = some p) : SlotsLawful (finishPersist p o s) := by
  refine h.withStore (finishPersist_slots p o s) ?_
  unfold finishPersist
  split
  · refine ⟨fun im hi => ?_, fun x hx => by cases hx⟩
    obtain rfl := Option.some.inj hi
    exact h.2.running p hp
  · exact h.2.end rfl rfl

theorem persistEnd_slotsLawful {o : ReadBack} {s t : State} (hs : SlotsLawful s) (h : exec (.persistEnd o) s = .next t) :
    SlotsLawful t := by
  simp only [exec, execPersistEnd] at h
  split at h <;> cases h
  · next p hp => exact finishPersist_slotsLawful p o hs hp
  · exact hs

/-- An event of a block other than the Slot Map unit and the Profile Store leaves both (log 4). -/
def KeepsSlots (s : State) (o : Host.Outcome State Fault Refusal) : Prop :=
  ∀ t, o = .next t → t.slots = s.slots ∧ t.profile = s.profile

theorem targetCompletion_keepsSlots (s : State) : KeepsSlots s (exec .targetCompletion s) := by
  intro t h
  simp only [exec, execTargetCompletion] at h
  split at h <;> (rw [Host.Outcome.next.injEq] at h; subst h; simp)

theorem shockExit_keepsSlots (s : State) : KeepsSlots s (exec .shockExit s) := by
  intro t h; rw [exec, execShockExit, Host.Outcome.next.injEq] at h; subst h; split <;> simp

theorem lockExpiry_keepsSlots (d : Domain) (s : State) : KeepsSlots s (exec (.lockExpiry d) s) := by
  intro t h; rw [exec, execLockExpiry, Host.Outcome.next.injEq] at h; subst h; split <;> simp

theorem bankSwap_keepsSlots (s : State) : KeepsSlots s (exec .bankSwap s) := by
  intro t h; rw [exec, execBankSwap, Host.Outcome.next.injEq] at h; subst h; split <;> simp

theorem resyncCopyEnd_keepsSlots (s : State) : KeepsSlots s (exec .resyncCopyEnd s) := by
  intro t h; rw [exec, execResyncCopyEnd, Host.Outcome.next.injEq] at h; subst h; split <;> simp

theorem captureComplete_keepsSlots (s : State) : KeepsSlots s (exec .captureComplete s) := by
  intro t h; rw [exec, execCaptureComplete, Host.Outcome.next.injEq] at h; subst h; split <;> simp

theorem profileLoadEnd_keepsSlots (s : State) : KeepsSlots s (exec .profileLoadEnd s) := by
  intro t h; simp only [exec, execProfileLoadEnd] at h; split at h <;> cases h <;> exact ⟨rfl, rfl⟩

theorem KeepsSlots.slotsLawful {s t : State} {o : Host.Outcome State Fault Refusal} (hk : KeepsSlots s o)
    (hs : SlotsLawful s) (h : o = .next t) : SlotsLawful t := hs.congr (hk t h).1 (hk t h).2

theorem event_slotsLawful (i : Instr) (hi : IsEvent i) (s t : State) (hs : SlotsLawful s) (h : exec i s = .next t) :
    SlotsLawful t := by
  cases hi with
  | outboundFrame f b m => exact outboundFrame_slotsLawful hs h
  | returnFrame f p => exact returnFrame_slotsLawful hs h
  | lineIdle =>
    simp only [exec, execLineIdle] at h
    split at h <;> cases h
    · exact hs.congr rfl rfl
    · exact loseLock_slotsLawful hs
    · exact hs
  | lockLoss =>
    cases h
    split
    · exact loseLock_slotsLawful hs
    · exact hs
  | settleEnd u => exact settleEnd_slotsLawful hs h
  | targetCompletion => exact (targetCompletion_keepsSlots s).slotsLawful hs h
  | shockExit => exact (shockExit_keepsSlots s).slotsLawful hs h
  | lockExpiry d => exact (lockExpiry_keepsSlots d s).slotsLawful hs h
  | bankSwap => exact (bankSwap_keepsSlots s).slotsLawful hs h
  | resyncCopyEnd => exact (resyncCopyEnd_keepsSlots s).slotsLawful hs h
  | captureComplete => exact (captureComplete_keepsSlots s).slotsLawful hs h
  | persistEnd o => exact persistEnd_slotsLawful hs h
  | persistTimeLimit =>
    cases h
    split
    · exact hs.withStore (persistBoundary_slots s) (persistBoundary_storeLawful hs.2)
    · exact hs
  | resetFull r => cases h; exact takeReset_slotsLawful _ r hs
  | resetWarm r => cases h; exact takeReset_slotsLawful _ r hs
  | powerUp x high => exact powerUp_slotsLawful hs h
  | profileLoadEnd => exact (profileLoadEnd_keepsSlots s).slotsLawful hs h
  | rstNFall => exact rstNFall_slotsLawful hs h
  | rstNRise x => exact rstNRise_slotsLawful hs h
  | outboundCellArrival => exact outboundCellArrival_slotsLawful hs h
  | lossOfPower => cases h; exact unpower_slotsLawful hs.2

theorem step_slotsLawful (s t : State) (hs : SlotsLawful s) (h : step s = .next t) : SlotsLawful t :=
  step_preserves SlotsLawful (fun _ _ hs => hs) (fun s hs => hs.congr (passTick_slots s) (passTick_profile s))
    (fun sent decided r _ hs => takeCommand_slotsLawful sent decided r hs) event_slotsLawful s t hs h

/-- Settles O54: every command and every event keeps the Slot Map unit and the Profile Store lawful. -/
theorem slotsStayLawful : Obligations.SlotsStayLawful := fun s t hm hr h =>
  (slotsLawful_iff t).1 (step_slotsLawful s t ((slotsLawful_iff s).2 ⟨hm, hr⟩) h)

end Sys2Proof.Machine
end

section
/-! SUPPORT. Which alert sources each reaction to a frame boundary can raise (R163). -/

namespace Sys2Proof.Machine

/-- From s to t no source outside the list has become pending or left the pending set. -/
def RaisesOnly (sources : List (Fin 16)) (s t : State) : Prop :=
  ∀ n : Fin 16, n ∉ sources → (t.alerts.pending.getLsbD n = true ↔ s.alerts.pending.getLsbD n = true)

theorem RaisesOnly.of_eq {l : List (Fin 16)} {s t : State} (h : t.alerts = s.alerts) : RaisesOnly l s t :=
  fun n _ => by rw [h]

theorem RaisesOnly.trans {l m : List (Fin 16)} {s t u : State} (h : RaisesOnly l s t) (k : RaisesOnly m t u) :
    RaisesOnly (l ++ m) s u := fun n hn => by
  rw [List.mem_append, not_or] at hn
  exact (k n hn.2).trans (h n hn.1)

theorem RaisesOnly.raise {a : AlertSource} {l : List (Fin 16)} (h : sourceNumber a ∈ l) (s : State) :
    RaisesOnly l s (raiseAlert a s) := fun n hn => by
  rw [pending_raiseAlert]
  exact or_iff_left fun e => hn (e ▸ h)

theorem RaisesOnly.raiseIf {a : AlertSource} {l : List (Fin 16)} (h : sourceNumber a ∈ l) (b : Bool) (s : State) :
    RaisesOnly l s (raiseIf b a s) := by
  cases b
  · exact .of_eq rfl
  · exact .raise h s

theorem completeItems_raisesOnly (s : State) : RaisesOnly [13] s (completeItems s) := by
  unfold completeItems
  simp only []
  split
  · exact .of_eq rfl
  · split
    · exact .trans (l := []) (.of_eq (State.alerts_setCapture s _)) (.raiseIf (by decide) _ _)
    · exact .of_eq (State.alerts_setCapture s _)

theorem overrunPass_raisesOnly (s : State) : RaisesOnly [13] s (overrunPass s) := by
  unfold overrunPass
  split
  · exact .trans (l := []) (.of_eq rfl) (completeItems_raisesOnly _)
  · exact .of_eq rfl

theorem limitBoundary_raisesOnly (n : Nat) (s : State) : RaisesOnly [1, 15] s (limitBoundary n s) := by
  unfold limitBoundary
  simp only []
  split
  · split
    · exact .trans (l := []) (.of_eq rfl) (.raise (by decide) _)
    · exact .of_eq rfl
  · split
    · exact .of_eq rfl
    · split
      · exact .trans (l := []) (.of_eq rfl) (.raise (by decide) _)
      · exact .of_eq rfl

theorem engineBoundary_raisesOnly (s : State) : RaisesOnly [4, 5] s (engineBoundary s) := by
  unfold engineBoundary
  split
  · exact .of_eq rfl
  · unfold validationStep
    simp only []
    split
    · exact .trans (l := []) (.of_eq rfl) (.raise (by decide) _)
    · split <;> exact .of_eq rfl
  · exact .of_eq rfl
  · unfold copyStep
    simp only []
    split
    · exact .trans (l := []) (.of_eq rfl) (.raise (by decide) _)
    · exact .of_eq rfl

theorem pulseBoundary_raisesOnly (m : Word) (notices : List Notice) (s : State) :
    RaisesOnly [11] s (pulseBoundary m notices s) :=
  .trans (l := []) (.of_eq rfl) (.raiseIf (by decide) _ _)

theorem leaseBoundary_raisesOnly (s : State) : RaisesOnly [8] s (leaseBoundary s) :=
  .trans (l := []) (.of_eq rfl) (.raiseIf (by decide) _ _)

theorem captureBoundary_raisesOnly (m : Word) (reports : List NoticeReport) (shockEntry : Bool) (s : State) :
    RaisesOnly [13] s (captureBoundary m reports shockEntry s) := by
  unfold captureBoundary
  simp only []
  generalize (if s.capture.state = .armed ∧ triggerHit s.capture.trigger reports shockEntry = true then fireTrigger s.capture
    else s.capture) = c
  split
  · split
    · exact .of_eq rfl
    · exact .trans (l := []) (.of_eq (State.alerts_setCapture s _)) (completeItems_raisesOnly _)
  · exact .of_eq rfl

theorem persistBoundary_raisesOnly (s : State) : RaisesOnly [6] s (persistBoundary s) := by
  unfold persistBoundary
  split
  · exact .of_eq rfl
  · split
    · exact .trans (l := []) (.of_eq rfl) (.raise (by decide) _)
    · exact .of_eq rfl

/-- Behind the slot evaluation a boundary raises every source of its own but SLED_CHANGED. -/
theorem frameBoundary_raisesOnly (f : Frame) (s : State) :
    RaisesOnly [1, 15, 4, 5, 11, 8, 13, 6] (evaluateSlots f (overrunPass s)) (frameBoundary f s) := by
  have intake : RaisesOnly [1, 15] (evaluateSlots f (overrunPass s)) (boundaryIntake f s) := by
    unfold boundaryIntake
    exact .trans (l := []) (.of_eq (giveEntries_alerts f (overrunPass s).slots _)) (limitBoundary_raisesOnly _ _)
  have started : ∀ r, RaisesOnly [] r (startPass f.number r) := fun r => .of_eq (startPass_alerts f.number r)
  unfold frameBoundary
  exact ((((((intake.trans (engineBoundary_raisesOnly _)).trans (pulseBoundary_raisesOnly _ _ _)).trans (started _)).trans
    (leaseBoundary_raisesOnly _)).trans (captureBoundary_raisesOnly _ _ _ _)).trans (persistBoundary_raisesOnly _))

end Sys2Proof.Machine
end

section
/-! PROOFS. The runtime record of every slot after a frame boundary, and SLED_CHANGED (R28). -/

namespace Sys2Proof.Machine

theorem evaluateSlots_sledChanged (f : Frame) (s : State) :
    (evaluateSlots f s).alerts.pending.getLsbD 12 = true ↔
      s.alerts.pending.getLsbD 12 = true ∨
        ∃ u : Slot, (evaluatedRecords f s.slots)[u].state ≠ s.slots.records[u].state := by
  unfold evaluateSlots raiseIf
  simp only []
  split
  · next changed =>
    rw [List.any_eq_true] at changed
    obtain ⟨u, -, hu⟩ := changed
    exact iff_of_true ((pending_raiseAlert .sledChanged _ 12).2 (.inr rfl)) (.inr ⟨u, by simpa using hu⟩)
  · next same =>
    rw [List.any_eq_true] at same
    refine (or_iff_left ?_).symm
    rintro ⟨u, hu⟩
    exact same ⟨u, List.mem_finRange u, by simpa using hu⟩

theorem matchedReturn_sledChanged (f : Frame) (s : State) :
    (matchedReturn f s).alerts.pending.getLsbD 12 = true ↔
      s.alerts.pending.getLsbD 12 = true ∨
        ∃ u : Slot, (evaluatedRecords f s.slots)[u].state ≠ s.slots.records[u].state := by
  unfold matchedReturn
  generalize hr : ((s.setPorts _).setMgmt _) = r
  have hslots : r.slots = s.slots := hr ▸ rfl
  have halerts : r.alerts = s.alerts := hr ▸ rfl
  rw [show (12 : Nat) = ((12 : Fin 16) : Nat) from rfl, frameBoundary_raisesOnly f r 12 (by decide)]
  refine (evaluateSlots_sledChanged f (overrunPass r)).trans ?_
  rw [overrunPass_slots, hslots, ← halerts]
  exact or_congr_left (overrunPass_raisesOnly r 12 (by decide))

/-- The table of R28, row by row. -/
theorem evaluateRecord_rows (r : SlotRecord) :
    (r.state = .detached → evaluateRecord false r = r) ∧
    (r.state = .detached → evaluateRecord true r = { state := .settling, settle := 256 }) ∧
    (r.state = .settling → evaluateRecord false r = { state := .detached, settle := 0 }) ∧
    (r.state = .settling → 1 < r.settle → evaluateRecord true r = { state := .settling, settle := r.settle - 1 }) ∧
    (r.state = .settling → r.settle = 1 → evaluateRecord true r = { state := .attached, settle := 0 }) ∧
    (r.state = .attached → evaluateRecord false r = { state := .detached, settle := 0 }) ∧
    (r.state = .attached → evaluateRecord true r = r) := by
  obtain ⟨state, settle⟩ := r
  refine ⟨?_, ?_, ?_, ?_, ?_, ?_, ?_⟩ <;> rintro rfl
  case refine_4 =>
    intro (hs : 1 < settle)
    simp [evaluateRecord, settleStep, Nat.not_le.2 hs]
  case refine_5 =>
    rintro rfl
    rfl
  all_goals rfl

/-- Settles O16. -/
theorem slotsAreEvaluated : Obligations.SlotsAreEvaluated := by
  intro f s hm
  have hslots := matchedReturn_slots f s
  refine ⟨matchedReturn f s, exec_returnFrame_matching f s hm, by rw [hslots], by rw [hslots], fun u => ?_, ?_⟩
  · rw [hslots]
    simp only [present_iff, evaluatedRecords_get, Bool.not_eq_true]
    obtain ⟨absent, arrives, leaves, settles, attaches, detaches, stays⟩ := evaluateRecord_rows s.slots.records[u]
    exact ⟨fun h p => p ▸ absent h, fun h p => p ▸ arrives h, fun h p => p ▸ leaves h, fun h c p => p ▸ settles h c,
      fun h c p => p ▸ attaches h c, fun h p => p ▸ detaches h, fun h p => p ▸ stays h⟩
  · rw [hslots]
    exact matchedReturn_sledChanged f s

end Sys2Proof.Machine
end

section
/-! PROOFS. The ends of a settle period, of a lease, of a PERSIST's time and of a shock hold as steps of their own (log 4). -/

namespace Sys2Proof.Machine

theorem exec_settleEnd_last {s : State} (hl : OnLoop s) {t : Slot}
    (ht : s.slots.records[t] = { state := .settling, settle := 1 }) :
    exec (.settleEnd t) s =
      .next (raiseAlert .sledChanged
        (s.setSlots { s.slots with records := s.slots.records.set t { state := .attached, settle := 0 } })) := by
  simp [exec, execSettleEnd, (onLoop_iff s).2 hl, ht]

theorem leaseEnds_some (h : Holder) : leaseEnds (some h) = true ↔ 32768 ≤ h.lease + 1 := by
  simp [leaseEnds, Config.leaseLimit]

theorem exec_lockExpiry_last {s : State} (hl : OnLoop s) {d : Domain} {h : Holder} (hd : lockOf s.mgmt.locks d = some h)
    (hlast : h.lease + 1 = 32768) :
    exec (.lockExpiry d) s =
      .next (raiseAlert .lockExpired (s.setMgmt { s.mgmt with locks := setLock s.mgmt.locks d none })) := by
  have ends : leaseEnds (lockOf s.mgmt.locks d) = true := by rw [hd, leaseEnds_some, hlast]
  simp [exec, execLockExpiry, (onLoop_iff s).2 hl, ends]

theorem persistBoundary_last {s : State} {p : PersistRun} (hp : s.profile.running = some p) (hlast : p.count + 1 = 20000) :
    persistBoundary s =
      raiseAlert .persistFailed (s.setProfile { s.profile with condition := .torn, running := none }) := by
  simp [persistBoundary, hp, hlast, Config.persistLimit]

theorem exec_persistTimeLimit_last {s : State} (hl : OnLoop s) {p : PersistRun} (hp : s.profile.running = some p)
    (hlast : p.count + 1 = 20000) : exec .persistTimeLimit s = .next (persistBoundary s) := by
  have ends : (s.profile.running.any fun p => Config.persistLimit ≤ p.count + 1) = true := by
    rw [hp, Option.any_some, hlast]
    rfl
  rw [exec, execPersistTimeLimit, (onLoop_iff s).2 hl, ends]
  rfl

theorem exec_shockExit_last {s : State} (hl : OnLoop s) (hm : s.limit.mode = .shockHold) (hlast : s.limit.holdOff = 1) :
    exec .shockExit s = .next (exitShock s) := by
  simp [exec, execShockExit, (onLoop_iff s).2 hl, hm, hlast]

theorem exitShock_eq {s : State} {m : ChosenMode} (hm : s.limit.saved = some m) :
    exitShock s =
      { s with
        limit := { s.limit with mode := m.operating, holdOff := 0 }
        intake := flushedIntake s.intake
        alerts := withPending 15 s.alerts } := by
  simp only [exitShock, hm, Option.getD_some, raiseAlert_eq]
  rfl

/-- Settles O27. -/
theorem spansEnd : Obligations.SpansEnd := by
  refine ⟨fun s hl => ⟨fun t ht => ?_, fun d h hd hlast => ?_, fun p hp hlast => ?_⟩,
    fun m s hl hmode hlast hsaved => ?_⟩
  · rw [exec_settleEnd_last hl ht, raiseAlert_eq]
    rfl
  · rw [exec_lockExpiry_last hl hd hlast, raiseAlert_eq]
    rfl
  · rw [exec_persistTimeLimit_last hl hp hlast, persistBoundary_last hp hlast, raiseAlert_eq]
    rfl
  · rw [exec_shockExit_last hl hmode hlast, exitShock_eq hsaved]

end Sys2Proof.Machine
end

section
/-! SUPPORT. DATA and READ under an OPEN context: what a taken command answers (R152, R153). -/

namespace Sys2Proof.Machine

/-! Taken commands and their contexts -/

theorem answered_of_taken {i : Instr} {code : Byte} {r : Request} {d : State → State × Reply} {s u : State}
    (ht : Taken r s u) (hx : exec i s = .next (takeCommand code r d s)) : Answered i code r (d u).2 s (d u).1 := by
  rw [Answered, hx, takeCommand_of_taken ht]

/-- The renewal of the leases changes neither a context nor a holder. -/
theorem Taken.openAt {r : Request} {s u : State} (ht : Taken r s u) {t : Table} {n : Nat} {m : ContextMode}
    (h : OpenAt r s t n m) : contextOf r u = { table := some t, index := n, mode := m, state := .opened } := by
  obtain ⟨-, -, rfl⟩ := ht
  exact h

theorem Taken.holds {r : Request} {s u : State} (ht : Taken r s u) {d : Domain} (h : Holds r d s) : holds r d u = true := by
  obtain ⟨-, -, rfl⟩ := ht
  rw [holds_renewLeases]
  exact (holds_iff r d s).2 h

theorem Taken.slots {r : Request} {s u : State} (ht : Taken r s u) : u.slots = s.slots := by
  obtain ⟨-, -, rfl⟩ := ht
  rfl

theorem Taken.banks {r : Request} {s u : State} (ht : Taken r s u) : u.banks = s.banks := by
  obtain ⟨-, -, rfl⟩ := ht
  rfl

theorem Taken.pool {r : Request} {s u : State} (ht : Taken r s u) : u.pool = s.pool := by
  obtain ⟨-, -, rfl⟩ := ht
  rfl

theorem Taken.contextOf {r : Request} {s u : State} (ht : Taken r s u) : contextOf r u = contextOf r s := by
  obtain ⟨-, -, rfl⟩ := ht
  rfl

/-! DATA on a configuration table -/

/-- With the CONFIG lock, a write that the table refuses is BAD_VALUE and changes nothing (R152). -/
theorem configWrite_refused {r : Request} {t : Table} {e : Nat → State → Option State} {u : State}
    (hh : holds r .config u = true) (he : e (contextOf r u).index u = none) :
    configWrite r t e u = unchanged .badValue u := by
  simp [configWrite, hh, he]

/-- With the CONFIG lock, a write that the table accepts is done and answered OK (R152). -/
theorem configWrite_accepted {r : Request} {t : Table} {e : Nat → State → Option State} {u v : State}
    (hh : holds r .config u = true) (he : e (contextOf r u).index u = some v) :
    configWrite r t e u = acceptWrite r t v := by
  simp [configWrite, hh, he]

theorem acceptedData_of_configWrite {i : Instr} {r : Request} {t : Table} {d : State → State × Reply}
    {e : Nat → State → Option State} {s u v : State} (ht : Taken r s u) (hx : exec i s = .next (takeCommand 5 r d s))
    (hd : d u = configWrite r t e u) (hh : Holds r .config s) (he : e (contextOf r u).index u = some v)
    (hc : contextOf r v = contextOf r u) : AcceptedData i r t s u v := by
  have answered := answered_of_taken ht hx
  rwa [hd, configWrite_accepted (ht.holds hh) he, acceptWrite, hc] at answered

theorem refusedData_of_configWrite {i : Instr} {r : Request} {t : Table} {d : State → State × Reply}
    {e : Nat → State → Option State} {s u : State} (ht : Taken r s u) (hx : exec i s = .next (takeCommand 5 r d s))
    (hd : d u = configWrite r t e u) (hh : Holds r .config s) (he : e (contextOf r u).index u = none) :
    Answered i 5 r (plainReply .badValue) s u := by
  have answered := answered_of_taken ht hx
  rwa [hd, configWrite_refused (ht.holds hh) he] at answered

/-- A DATA row whose context is OPEN on its table does the table's write. -/
theorem dataRow_of_open {t : Table} {write : Request → State → State × Reply} {r : Request} {u : State} {n : Nat}
    {m : ContextMode} (h : contextOf r u = { table := some t, index := n, mode := m, state := .opened }) :
    dataRow (openOn t) write r u = write r u := by
  have : openOn t (contextOf r u) = true := (openOn_iff t _).2 (by rw [h]; exact ⟨rfl, rfl⟩)
  rw [dataRow, this, if_pos rfl]

end Sys2Proof.Machine
end

section
/-! PROOFS. DATA on SLOTMAP (R22, R23). -/

namespace Sys2Proof.Machine

theorem cellOfByte_cell {b : Byte} {c : Fin 64} (h : b.toNat = c.val) : cellOfByte b = some (some c) := by
  have := c.isLt
  simp [cellOfByte, h]

theorem cellOfByte_none {b : Byte} (h : b.toNat = 255) : cellOfByte b = some none := by
  obtain rfl : b = 0xFF := BitVec.eq_of_toNat_eq h
  rfl

theorem cellOfByte_refused {b : Byte} (hb : 64 ≤ b.toNat) (hn : b.toNat ≠ 255) : cellOfByte b = none := by
  have : b ≠ 0xFF := fun e => hn (by rw [e]; rfl)
  rw [cellOfByte, dif_neg (Nat.not_lt.2 hb), if_neg this]

/-- A SLOTMAP write of a cell value that is no refused one (R22). -/
theorem editSlotmap_eq {p : Vector Byte 8} {c : Option (Fin 64)} (hp : cellOfByte p[0] = some c) (t : Slot) (s : State) :
    editSlotmap p t.val s =
      if s.slots.map[t] = c then some s else if cellTaken s.slots.map t c then none else some (remap t c s) := by
  have ht : Fin.ofNat 64 t.val = t := by ext; simp
  simp only [editSlotmap, hp, ht]

theorem remap_eq_remapped (t : Slot) (c : Option (Fin 64)) (s : State) : remap t c s = remapped t c s := by
  unfold remap remapped
  simp only []
  split <;> rfl

theorem contextOf_remapped (r : Request) (t : Slot) (c : Option (Fin 64)) (s : State) :
    contextOf r (remapped t c s) = contextOf r s := by
  unfold remapped
  split <;> rfl

/-- Settles O45: the edits of R22, case by case. -/
theorem slotIsRemapped : Obligations.SlotIsRemapped := by
  intro r s u t ht ho hh
  have hc := ht.openAt ho
  have accepted : ∀ {v}, editSlotmap r.payload t.val u = some v → contextOf r v = contextOf r u →
      AcceptedData (.dataSlotmap r) r .slotmap s u v := fun he hv =>
    acceptedData_of_configWrite ht rfl (dataRow_of_open hc) hh (by rw [hc]; exact he) hv
  have refused : editSlotmap r.payload t.val u = none → Answered (.dataSlotmap r) 5 r (plainReply .badValue) s u := fun he =>
    refusedData_of_configWrite ht rfl (dataRow_of_open hc) hh (by rw [hc]; exact he)
  have changed : ∀ {c}, editSlotmap r.payload t.val u = some (remap t c u) →
      AcceptedData (.dataSlotmap r) r .slotmap s u (remapped t c u) := fun he =>
    accepted (by rw [he, remap_eq_remapped]) (contextOf_remapped r t _ u)
  rw [← ht.slots]
  refine ⟨fun hb hn => refused ?_, fun hb hm => accepted ?_ rfl, fun hb hm => changed ?_,
    fun c hb => ⟨fun hm => accepted ?_ rfl, fun hm hw => refused ?_, fun hm hw => changed ?_⟩⟩
  · simp only [editSlotmap, cellOfByte_refused hb hn]
  · rw [editSlotmap_eq (cellOfByte_none hb), if_pos hm]
  · rw [editSlotmap_eq (cellOfByte_none hb), if_neg hm]
    rfl
  · rw [editSlotmap_eq (cellOfByte_cell hb), if_pos hm]
  · rw [editSlotmap_eq (cellOfByte_cell hb), if_neg hm, if_pos ((cellTaken_iff _ t c).2 hw)]
  · have free : ¬ cellTaken u.slots.map t (some c) = true := by
      rw [cellTaken_iff]
      exact fun ⟨w, hwt, hwc⟩ => hw w hwt hwc
    rw [editSlotmap_eq (cellOfByte_cell hb), if_neg hm, if_neg free]

end Sys2Proof.Machine
end

section
/-! SUPPORT. READ under an OPEN context, and the bytes of the items (R153, R162, 09 Table 9.9). -/

namespace Sys2Proof.Machine

/-! READ -/

/-- A READ under a context OPEN on another table than COUNTERS answers its item (R153). -/
theorem decideRead_of_open {t : Table} {r : Request} {u : State} {n : Nat} {m : ContextMode}
    (h : contextOf r u = { table := some t, index := n, mode := m, state := .opened }) (ht : t ≠ .counters) :
    decideRead r u = answerRead t r u := by
  unfold decideRead
  rw [h]
  cases t
  case counters => exact absurd rfl ht
  all_goals rfl

theorem answeredItem_of_readItem {r : Request} {s u : State} {t : Table} {n : Nat} {m : ContextMode} {flag : Bool}
    {p : Vector Byte 8} (ht : Taken r s u) (ho : OpenAt r s t n m) (hn : t ≠ .counters) (hr : readItem t n u = .item flag p) :
    AnsweredItem (.read r) r t flag p s u u := by
  have hc := ht.openAt ho
  have answered := answered_of_taken (i := .read r) ht rfl
  rw [decideRead_of_open hc hn, answerRead, hc] at answered
  simp only [hr] at answered
  rwa [AnsweredItem, hc]

theorem answered_of_readItem_refused {r : Request} {s u : State} {t : Table} {n : Nat} {m : ContextMode} {a : Answer}
    (ht : Taken r s u) (ho : OpenAt r s t n m) (hn : t ≠ .counters) (hr : readItem t n u = .refusedWith a) :
    Answered (.read r) 6 r (plainReply a) s u := by
  have hc := ht.openAt ho
  have answered := answered_of_taken (i := .read r) ht rfl
  rw [decideRead_of_open hc hn, answerRead, hc] at answered
  simp only [hr] at answered
  exact answered

/-- Each of the rows READ, READ_COUNTERS and READ_CAPTURE is decided by the context (log 5). -/
theorem exec_readRow {j : Instr} {r : Request} (hj : j ∈ [Instr.read r, .readCounters r, .readCapture r]) (s : State) :
    exec j s = .next (takeCommand 6 r (decideRead r) s) := by
  simp only [List.mem_cons, List.not_mem_nil, or_false] at hj
  rcases hj with rfl | rfl | rfl
  · rfl
  · rw [exec, execReadCounters, countersRow_eq]
  · rw [exec, execReadCapture, captureRow_eq]

/-- Without an OPEN context a READ is RANGE (R153). -/
theorem decideRead_of_not_open {r : Request} {u : State} (h : (contextOf r u).state ≠ .opened) :
    decideRead r u = unchanged .range u := by
  unfold decideRead
  simp only []
  split
  · next ho _ => exact absurd ho h
  · rfl

/-! Bytes and words -/

theorem hiByte_append_loByte (w : Word) : hiByte w ++ loByte w = w := by
  ext i hi
  simp only [hiByte, loByte, BitVec.getElem_append, BitVec.getElem_extractLsb']
  split
  · simp [BitVec.getLsbD_eq_getElem hi]
  · next h => simp [Nat.add_sub_cancel' (Nat.not_lt.1 h), BitVec.getLsbD_eq_getElem hi]

/-- The words of a payload of four words stand at bytes 0 and 1, 2 and 3, 4 and 5, 6 and 7 (R162). -/
theorem payloadOfWords_word (w : Fin 4 → Word) (j : Fin 4) :
    (payloadOfWords (w 0) (w 1) (w 2) (w 3))[2 * j.val] ++ (payloadOfWords (w 0) (w 1) (w 2) (w 3))[2 * j.val + 1] = w j := by
  fin_cases j
  · exact hiByte_append_loByte (w 0)
  · exact hiByte_append_loByte (w 1)
  · exact hiByte_append_loByte (w 2)
  · exact hiByte_append_loByte (w 3)

/-! Sets of slots -/

/-- Byte k bit b of a payload is slot 8k + b of its set. -/
theorem getLsbD_setOfPayload (p : Vector Byte 8) (t : Slot) :
    (setOfPayload p).getLsbD t = p[t.val / 8].getLsbD (t.val % 8) := by
  have byte : ∀ (k : Fin 8) (b : Nat), b < 8 → (setOfPayload p).getLsbD (8 * k.val + b) = p[k].getLsbD b := by
    intro k b hb
    fin_cases k <;> grind [setOfPayload]
  conv_lhs => rw [← Nat.div_add_mod t.val 8]
  exact byte ⟨t.val / 8, by omega⟩ (t.val % 8) (Nat.mod_lt _ (by decide))

/-- Byte k bit b of the payload of a set is its slot 8k + b. -/
theorem getLsbD_payloadOfSet (s : SlotSet) (t : Slot) :
    (payloadOfSet s)[t.val / 8].getLsbD (t.val % 8) = s.getLsbD t := by
  have byte : ∀ (k : Fin 8) (b : Nat), b < 8 → (payloadOfSet s)[k].getLsbD b = s.getLsbD (8 * k.val + b) := by
    intro k b hb
    fin_cases k <;> simp [payloadOfSet, hb]
  conv_rhs => rw [← Nat.div_add_mod t.val 8]
  exact byte ⟨t.val / 8, by omega⟩ (t.val % 8) (Nat.mod_lt _ (by decide))

end Sys2Proof.Machine
end

section
/-! PROOFS. DATA and READ on TARGETS (R25). -/

namespace Sys2Proof.Machine

/-- The Target Set a write in mode m leaves (R25). -/
def writtenTargets (m : ContextMode) (p : Vector Byte 8) (old : SlotSet) : SlotSet :=
  match m with
  | .set => old ||| setOfPayload p
  | .clear => old &&& ~~~setOfPayload p
  | .replace | .add | .plain => setOfPayload p

theorem editTargets_eq (m : ContextMode) (p : Vector Byte 8) (s : State) :
    editTargets m p s = { s with slots := { s.slots with targets := writtenTargets m p s.slots.targets } } := by
  cases m <;> rfl

theorem getLsbD_writtenTargets (m : ContextMode) (p : Vector Byte 8) (old : SlotSet) (t : Slot) :
    (writtenTargets m p old).getLsbD t = match m with
      | .set => old.getLsbD t || p[t.val / 8].getLsbD (t.val % 8)
      | .clear => old.getLsbD t && !p[t.val / 8].getLsbD (t.val % 8)
      | _ => p[t.val / 8].getLsbD (t.val % 8) := by
  rw [← getLsbD_setOfPayload]
  cases m with
  | set => exact BitVec.getLsbD_or
  | clear => simp [writtenTargets, t.isLt]
  | replace => rfl
  | add => rfl
  | plain => rfl

/-- Settles O46. -/
theorem targetSetIsWrittenAndRead : Obligations.TargetSetIsWrittenAndRead := by
  intro r s u m ht ho
  have hc := ht.openAt ho
  refine ⟨fun hh _ => ⟨writtenTargets m r.payload s.slots.targets, getLsbD_writtenTargets m r.payload s.slots.targets, ?_⟩,
    payloadOfSet s.slots.targets, getLsbD_payloadOfSet s.slots.targets, ?_⟩
  · refine acceptedData_of_configWrite (e := fun _ s => some (editTargets (contextOf r u).mode r.payload s)) ht rfl
      (dataRow_of_open hc) hh ?_ rfl
    rw [hc, editTargets_eq, ht.slots]
  · exact answeredItem_of_readItem ht ho (by decide) (by rw [readItem, ht.slots])

end Sys2Proof.Machine
end

section
/-! PROOFS. READ of the bank tables, of SLOTMAP and of PULSES (R24, R59, R67, R113, R153). -/

namespace Sys2Proof.Machine

/-! The refusals -/

theorem readItem_standby_busy {t : Table} (ht : t = .standbyCt ∨ t = .standbyKernel ∨ t = .standbyTemplate) {u : State}
    (he : u.banks.engine ≠ .idle) (n : Nat) : readItem t n u = .refusedWith .busy := by
  rcases ht with rfl | rfl | rfl <;> exact if_neg he

theorem readStandby_idle {u : State} (he : u.banks.engine = .idle) (item : Bank → ReadResult) :
    readStandby u item = item (standbyBank u.banks) := if_pos he

/-! Coupling Tables -/

theorem readCt_item (b : Bank) (t : Slot) (p : Fin 8) :
    readCt b (8 * t.val + p.val) = .item false (ctPayload b.rows[t][p]) := by
  have ht : Fin.ofNat 64 ((8 * t.val + p.val) / 8) = t := by ext; simp [Fin.ofNat]; omega
  have hp : Fin.ofNat 8 (8 * t.val + p.val) = p := by ext; simp [Fin.ofNat]
  simp only [readCt, ht, hp]

/-! Kernel Stores and Template Tables -/

/-- Words 4q to 4q + 3 of a vector as a payload. -/
def fourWords {n : Nat} [NeZero n] (v : Vector Word n) (q : Nat) : Vector Byte 8 :=
  payloadOfWords v[Fin.ofNat n (4 * q)] v[Fin.ofNat n (4 * q + 1)] v[Fin.ofNat n (4 * q + 2)] v[Fin.ofNat n (4 * q + 3)]

theorem fourWords_word {n : Nat} [NeZero n] (v : Vector Word n) (q : Nat) (j : Fin 4) (a : Fin n) (ha : a.val = 4 * q + j.val) :
    (fourWords v q)[2 * j.val] ++ (fourWords v q)[2 * j.val + 1] = v[a] := by
  have at_j : Fin.ofNat n (4 * q + j.val) = a := by
    ext
    simp [Fin.ofNat, ← ha, Nat.mod_eq_of_lt a.isLt]
  exact (payloadOfWords_word (fun j => v[Fin.ofNat n (4 * q + j.val)]) j).trans (by simp only [at_j])

theorem readKernel_item (b : Bank) (k : Fin 128) (q : Fin 4) :
    readKernel b (4 * k.val + q.val) = .item b.kernels[k].defined (fourWords b.kernels[k].taps q.val) := by
  have hk : Fin.ofNat 128 ((4 * k.val + q.val) / 4) = k := by ext; simp [Fin.ofNat]; omega
  have hq : (4 * k.val + q.val) % 4 = q.val := by omega
  simp only [readKernel, fourWords, hk, hq, Nat.add_zero]

theorem readTemplate_item (b : Bank) (k q : Fin 8) :
    readTemplate b (8 * k.val + q.val) = .item false (fourWords b.templates[k] q.val) := by
  have hk : Fin.ofNat 8 ((8 * k.val + q.val) / 8) = k := by ext; simp [Fin.ofNat]; omega
  have hq : (8 * k.val + q.val) % 8 = q.val := by omega
  simp only [readTemplate, fourWords, hk, hq, Nat.add_zero]

/-! Items of either bank -/

/-- A table of the standby bank, whose READ waits for the Bank Engine, and the same table of the live bank (R59, R67). -/
structure BankTable (standby live : Table) (item : Bank → Nat → ReadResult) : Prop where
  standby_item : ∀ n u, readItem standby n u = readStandby u fun b => item b n
  live_item : ∀ n u, readItem live n u = item (liveBank u.banks) n
  standby_ne : standby ≠ .counters
  live_ne : live ≠ .counters

theorem bankTable_ct : BankTable .standbyCt .liveCt readCt := ⟨fun _ _ => rfl, fun _ _ => rfl, by decide, by decide⟩

theorem bankTable_kernel : BankTable .standbyKernel .liveKernel readKernel :=
  ⟨fun _ _ => rfl, fun _ _ => rfl, by decide, by decide⟩

theorem bankTable_template : BankTable .standbyTemplate .liveTemplate readTemplate :=
  ⟨fun _ _ => rfl, fun _ _ => rfl, by decide, by decide⟩

/-- A READ on a bank's table answers the item of that bank. -/
theorem BankTable.answered {standby live table : Table} {item : Bank → Nat → ReadResult} (k : BankTable standby live item)
    {r : Request} {s u : State} {b : Bank} {n : Nat} {m : ContextMode} {flag : Bool} {p : Vector Byte 8} (ht : Taken r s u)
    (h : table = standby ∧ s.banks.engine = .idle ∧ b = standbyBank s.banks ∨ table = live ∧ b = liveBank s.banks)
    (ho : OpenAt r s table n m) (hi : item b n = .item flag p) : AnsweredItem (.read r) r table flag p s u u := by
  rcases h with ⟨rfl, he, rfl⟩ | ⟨rfl, rfl⟩
  · refine answeredItem_of_readItem ht ho k.standby_ne ?_
    rw [k.standby_item, readStandby_idle (by rwa [ht.banks]), ht.banks, hi]
  · refine answeredItem_of_readItem ht ho k.live_ne ?_
    rw [k.live_item, ht.banks, hi]

/-! Slot Map and Pulse Pool -/

theorem readItem_slotmap (t : Slot) (u : State) :
    readItem .slotmap t.val u = .item false (slotmapPayload u.slots.map[t] u.slots.records[t]) := by
  have ht : Fin.ofNat 64 t.val = t := by ext; simp
  simp only [readItem, ht]

/-- The bytes of a PULSES item that is present (R113). -/
theorem pulsePayload_bytes (q : Pulse) :
    let p := pulsePayload (some q)
    p[0].getLsbD 0 = true ∧ p[0].getLsbD 1 = decide (q.direction = .outward) ∧
      p[0].getLsbD 2 = decide (q.play = .playing) ∧ p[1] = BitVec.ofNat 8 q.source.val ∧
      p[2] = BitVec.ofNat 8 q.lengthClass.val ∧ p[3] = BitVec.ofInt 8 q.position ∧ p[4] ++ p[5] = q.onset := by
  obtain ⟨source, lengthClass, direction, onset, position, play⟩ := q
  refine ⟨?_, ?_, ?_, rfl, rfl, rfl, hiByte_append_loByte onset⟩ <;> cases direction <;> cases play <;> simp [pulsePayload]

/-! The obligation -/

/-- The refusals of READ (R67, R153). -/
theorem read_refusals {r : Request} {s u : State} (ht : Taken r s u) (m : ContextMode) :
    (∀ j, j ∈ [Instr.read r, .readCounters r, .readCapture r] → (contextOf r s).state ≠ .opened →
      Answered j 6 r (plainReply .range) s u) ∧
    (∀ (t : Table) (n : Nat), t = .standbyCt ∨ t = .standbyKernel ∨ t = .standbyTemplate → OpenAt r s t n m →
      s.banks.engine ≠ .idle → Answered (.read r) 6 r (plainReply .busy) s u) := by
  refine ⟨fun j hj hn => ?_, fun t n hs ho he => ?_⟩
  · have answered := answered_of_taken ht (exec_readRow hj s)
    rwa [decideRead_of_not_open (by rwa [ht.contextOf])] at answered
  · have other : t ≠ .counters := by rcases hs with rfl | rfl | rfl <;> decide
    exact answered_of_readItem_refused ht ho other (readItem_standby_busy hs (by rwa [ht.banks]) n)

/-- Settles O48, table by table. -/
theorem tablesAreRead : Obligations.TablesAreRead := by
  refine ⟨fun r s u m ht => ⟨(read_refusals ht m).1, (read_refusals ht m).2, ?_, ?_, ?_⟩,
    fun r s u m ht => ⟨fun t ho => ?_, fun n ho => ⟨fun hn => ?_, fun q hq => ?_⟩⟩⟩
  · intro table b t p hb ho
    have answered := bankTable_ct.answered ht hb ho (readCt_item b t p)
    refine ⟨fun he => ?_, fun e he =>
      ⟨ctPayload (some e), rfl, rfl, rfl, rfl, hiByte_append_loByte e.gain, hiByte_append_loByte _, ?_⟩⟩
    · rw [he] at answered
      exact answered
    · rwa [he] at answered
  · intro table b k q hb ho
    exact ⟨fourWords b.kernels[k].taps q.val, fourWords_word _ _,
      bankTable_kernel.answered ht hb ho (readKernel_item b k q)⟩
  · intro table b k q hb ho
    exact ⟨fourWords b.templates[k] q.val, fourWords_word _ _,
      bankTable_template.answered ht hb ho (readTemplate_item b k q)⟩
  · refine ⟨slotmapPayload s.slots.map[t] s.slots.records[t], rfl, rfl, hiByte_append_loByte _, ?_⟩
    exact answeredItem_of_readItem ht ho (by decide) (by rw [readItem_slotmap, ht.slots])
  · have absent : u.pool[n.val]? = none := by rw [ht.pool]; exact List.getElem?_eq_none hn
    exact answeredItem_of_readItem ht ho (by decide) (by rw [readItem, absent]; rfl)
  · obtain ⟨present, direction, play, source, lengthClass, position, onset⟩ := pulsePayload_bytes q
    refine ⟨pulsePayload (some q), present, direction, play, source, lengthClass, position, onset, ?_⟩
    exact answeredItem_of_readItem ht ho (by decide) (by rw [readItem, ht.pool, hq])

end Sys2Proof.Machine
end

section
/-! SUPPORT. Counters and alert sources one at a time, and what a frame boundary hands from block to block: the state it starts from,
the resulting mode, the histories and the pool. -/

namespace Sys2Proof.Machine

/-! One counter, one source -/

theorem bump_counter (c : CounterId) (n : Nat) (s : State) :
    (bump c n s).counters[counterItem c] = countUp s.counters[counterItem c] n := by
  simp [bump_eq, counted]

theorem bump_counter_ne {c : CounterId} {d : Fin 10} (h : d ≠ counterItem c) (n : Nat) (s : State) :
    (bump c n s).counters[d] = s.counters[d] := by
  have hne : (counterItem c).val ≠ d.val := fun e => h (Fin.ext e.symm)
  simp [bump_eq, counted, hne]

theorem pending_raiseIf (b : Bool) (a : AlertSource) (s : State) (n : Fin 16) :
    (raiseIf b a s).alerts.pending.getLsbD n = true ↔
      s.alerts.pending.getLsbD n = true ∨ b = true ∧ n = sourceNumber a := by
  cases b
  · simp only [raiseIf_false, Bool.false_eq_true, false_and, or_false]
  · simp only [raiseIf_true, pending_raiseAlert, true_and]

/-! Cells and slots of a frame -/

theorem returnHalf_of_unmapped {map : Vector (Option (Fin 64)) 64} {t : Slot} (h : map[t] = none) (f : Frame) :
    returnHalf f map t = none := by simp only [returnHalf, h]

theorem returnHalf_of_mapped {map : Vector (Option (Fin 64)) 64} {t : Slot} {c : Fin 64} (h : map[t] = some c) (f : Frame) :
    returnHalf f map t = if c.val < f.used.toNat then some f.cells[c] else none := by simp only [returnHalf, h]

theorem returnHalf_eq_some {f : Frame} {map : Vector (Option (Fin 64)) 64} {t : Slot} {x : SlotCell} :
    returnHalf f map t = some x ↔ ∃ c : Fin 64, map[t] = some c ∧ c.val < f.used.toNat ∧ f.cells[c] = x := by
  cases h : map[t] with
  | none => simp [returnHalf_of_unmapped h]
  | some c => simp [returnHalf_of_mapped h]

/-- A slot is DETACHED behind a boundary exactly when its sled is absent there (R28). -/
theorem evaluateRecord_detached (present : Bool) (r : SlotRecord) :
    (evaluateRecord present r).state = .detached ↔ present = false := by
  obtain ⟨state, settle⟩ := r
  cases present with
  | false => cases state <;> exact iff_of_true rfl rfl
  | true =>
    refine iff_of_false ?_ nofun
    cases state
    case detached | attached => nofun
    case settling =>
      unfold evaluateRecord settleStep
      simp only []
      split <;> nofun

theorem detachedNow_iff (f : Frame) (u : SlotUnit) (t : Slot) :
    detachedNow f u t = true ↔ u.records[t].state ≠ .detached ∧ (evaluatedRecords f u)[t].state = .detached := by
  rw [evaluatedRecords_get, evaluateRecord_detached]
  simp [detachedNow]

/-! The boundary -/

/-- The part as a matching return leaves it for the frame boundary: the frame is spent and forwarded, and the responses that left
are gone from the queue (R15). -/
def boundaryStart (f : Frame) (s : State) : State :=
  (s.setPorts { s.ports with frameMatch := .spent, retOut := some (writtenReturn f s) }).setMgmt
    { s.mgmt with queue := (fillResponses f.responses.toList s.mgmt.queue).2 }

theorem matchedReturn_eq (f : Frame) (s : State) : matchedReturn f s = frameBoundary f (boundaryStart f s) := rfl

@[simp] theorem boundaryStart_slots (f : Frame) (s : State) : (boundaryStart f s).slots = s.slots := rfl
@[simp] theorem boundaryStart_intake (f : Frame) (s : State) : (boundaryStart f s).intake = s.intake := rfl
@[simp] theorem boundaryStart_pool (f : Frame) (s : State) : (boundaryStart f s).pool = s.pool := rfl
@[simp] theorem boundaryStart_limit (f : Frame) (s : State) : (boundaryStart f s).limit = s.limit := rfl
@[simp] theorem boundaryStart_alerts (f : Frame) (s : State) : (boundaryStart f s).alerts = s.alerts := rfl
@[simp] theorem boundaryStart_counters (f : Frame) (s : State) : (boundaryStart f s).counters = s.counters := rfl

theorem frameBoundary_slots (f : Frame) (s : State) :
    (frameBoundary f s).slots = { s.slots with records := evaluatedRecords f s.slots } := by
  simp [frameBoundary, boundaryIntake_slots]

theorem frameBoundary_intake (f : Frame) (s : State) : (frameBoundary f s).intake = (boundaryIntake f s).intake := by
  simp [frameBoundary]

/-- A swap resets limit levels and leaves the mode (R123). -/
theorem engineBoundary_mode (s : State) : (engineBoundary s).limit.mode = s.limit.mode := by
  unfold engineBoundary
  split
  · rfl
  · rw [validationStep_limit]
  · simp only [swapBanks, swapLevels, State.limit_setLimit]
  · rw [copyStep_limit]

theorem frameBoundary_mode (f : Frame) (s : State) :
    (frameBoundary f s).limit.mode = (boundaryIntake f s).limit.mode := by
  simp [frameBoundary, engineBoundary_mode]

/-! The resulting mode -/

theorem ChosenMode.operating_ne_shockHold (m : ChosenMode) : m.operating ≠ .shockHold := by cases m <;> decide

theorem OperatingMode.chosen_eq_some {o : OperatingMode} {m : ChosenMode} : o.chosen = some m ↔ o = m.operating := by
  cases o <;> cases m <;> decide

theorem OperatingMode.chosen_eq_none {o : OperatingMode} : o.chosen = none ↔ o = .shockHold := by cases o <;> decide

/-- Outside SHOCK_HOLD a boundary is a shock entry or forms the mode asked for (R117). -/
theorem limitBoundary_of_chosen {s : State} {m : ChosenMode} (hm : s.limit.mode = m.operating) (n : Nat) :
    limitBoundary n s =
      if reachesQuorum s.limit n then enterShock (s.limit.request.getD m) s
      else s.setLimit { s.limit with mode := (s.limit.request.getD m).operating, request := none } := by
  simp only [limitBoundary, OperatingMode.chosen_eq_some.2 hm]

/-- In SHOCK_HOLD a boundary renews the hold, ends it or counts it down (R117). -/
theorem limitBoundary_of_hold {s : State} (hm : s.limit.mode = .shockHold) (n : Nat) :
    limitBoundary n s =
      if reachesQuorum s.limit n then s.setLimit { s.limit with holdOff := s.limit.params.shockHoldOff.toNat }
      else if s.limit.holdOff ≤ 1 then exitShock s
      else s.setLimit { s.limit with holdOff := s.limit.holdOff - 1 } := by
  simp only [limitBoundary, OperatingMode.chosen_eq_none.2 hm]

/-- A mode is SHOCK_HOLD or one a manager may choose (R115). -/
theorem OperatingMode.hold_or_chosen (o : OperatingMode) : o = .shockHold ∨ ∃ m : ChosenMode, o = m.operating := by
  cases o
  case off => exact .inr ⟨.off, rfl⟩
  case run => exact .inr ⟨.run, rfl⟩
  case freeze => exact .inr ⟨.freeze, rfl⟩
  case shockHold => exact .inl rfl

/-- The rows of R117: shock entry, a chosen mode, the hold renewed, shock exit, the hold going on. -/
theorem limitBoundary_cases (n : Nat) (s : State) :
    (∃ m : ChosenMode, s.limit.mode = m.operating ∧ reachesQuorum s.limit n = true ∧
      limitBoundary n s = enterShock (s.limit.request.getD m) s) ∨
    (∃ m : ChosenMode, s.limit.mode = m.operating ∧ ¬ reachesQuorum s.limit n = true ∧
      limitBoundary n s = s.setLimit { s.limit with mode := (s.limit.request.getD m).operating, request := none }) ∨
    (s.limit.mode = .shockHold ∧ reachesQuorum s.limit n = true ∧
      limitBoundary n s = s.setLimit { s.limit with holdOff := s.limit.params.shockHoldOff.toNat }) ∨
    (s.limit.mode = .shockHold ∧ ¬ reachesQuorum s.limit n = true ∧ s.limit.holdOff ≤ 1 ∧ limitBoundary n s = exitShock s) ∨
    (s.limit.mode = .shockHold ∧ ¬ reachesQuorum s.limit n = true ∧ ¬ s.limit.holdOff ≤ 1 ∧
      limitBoundary n s = s.setLimit { s.limit with holdOff := s.limit.holdOff - 1 }) := by
  rcases s.limit.mode.hold_or_chosen with hm | ⟨m, hm⟩
  · rw [limitBoundary_of_hold hm]
    by_cases hq : reachesQuorum s.limit n = true
    · exact .inr (.inr (.inl ⟨hm, hq, if_pos hq⟩))
    · rw [if_neg hq]
      by_cases hh : s.limit.holdOff ≤ 1
      · exact .inr (.inr (.inr (.inl ⟨hm, hq, hh, if_pos hh⟩)))
      · exact .inr (.inr (.inr (.inr ⟨hm, hq, hh, if_neg hh⟩)))
  · rw [limitBoundary_of_chosen hm]
    by_cases hq : reachesQuorum s.limit n = true
    · exact .inl ⟨m, hm, hq, if_pos hq⟩
    · exact .inr (.inl ⟨m, hm, hq, if_neg hq⟩)

/-! Counters -/

theorem overrunPass_counter {d : Fin 10} (h : d ≠ 4) (s : State) : (overrunPass s).counters[d] = s.counters[d] := by
  unfold overrunPass
  split
  · rw [completeItems_counters, bump_counter_ne h, State.counters_setCoupling]
  · rfl

theorem frameBoundary_counter {d : Fin 10} (h : d ≠ 5) (f : Frame) (s : State) :
    (frameBoundary f s).counters[d] = (boundaryIntake f s).counters[d] := by
  unfold frameBoundary
  simp only [persistBoundary_counters, captureBoundary_counters, leaseBoundary_counters, startPass_counters]
  unfold pulseBoundary
  simp only [raiseIf_counters]
  rw [bump_counter_ne h, State.counters_setPool, engineBoundary_counters]

theorem limitBoundary_counter {d : Fin 10} (h : d ≠ 9) (n : Nat) (s : State) :
    (limitBoundary n s).counters[d] = s.counters[d] := by
  rcases limitBoundary_cases n s with ⟨m, -, -, e⟩ | ⟨m, -, -, e⟩ | ⟨-, -, e⟩ | ⟨-, -, -, e⟩ | ⟨-, -, -, e⟩ <;> rw [e]
  case inl => exact bump_counter_ne (c := .shocks) h 1 _
  all_goals rfl

end Sys2Proof.Machine
end

section
/-! PROOFS. The history entry of every slot at a frame boundary, the flushes that cover it, the head and HOLES (R38, R39, R43, R44,
R48). -/

namespace Sys2Proof.Machine

/-! The entry of a slot, row by row (R39) -/

section
variable {f : Frame} {map : Vector (Option (Fin 64)) 64} {r : SlotRecord} {t : Slot}

theorem boundaryEntry_of_detached (h : r.state = .detached) : boundaryEntry f map r t = none := if_pos h

theorem boundaryEntry_of_unmapped (h : map[t] = none) : boundaryEntry f map r t = none := by
  simp [boundaryEntry, returnHalf_of_unmapped h]

theorem boundaryEntry_of_unused {c : Fin 64} (h : map[t] = some c) (hc : f.used.toNat ≤ c.val) :
    boundaryEntry f map r t = none := by
  simp only [boundaryEntry, returnHalf_of_mapped h, Nat.not_lt.2 hc, if_false, ite_self]

theorem boundaryEntry_of_no_sample {c : Fin 64} (h : map[t] = some c)
    (hc : isPresent f.cells[c] = false ∨ isSensorValid f.cells[c] = false) : boundaryEntry f map r t = none := by
  rcases Nat.lt_or_ge c.val f.used.toNat with used | unused
  · simp only [boundaryEntry, returnHalf_of_mapped h, used, if_true, Bool.and_eq_false_iff.2 hc, Bool.false_eq_true, if_false,
      ite_self]
  · exact boundaryEntry_of_unused h unused

theorem boundaryEntry_of_sample (hr : r.state ≠ .detached) {c : Fin 64} (h : map[t] = some c) (hu : c.val < f.used.toNat)
    (hp : isPresent f.cells[c] = true) (hv : isSensorValid f.cells[c] = true) :
    boundaryEntry f map r t = some f.cells[c].sample := by
  simp only [boundaryEntry, hr, if_false, returnHalf_of_mapped h, hu, if_true, hp, hv, Bool.and_self]

end

/-! The histories -/

/-- Histories and head behind the entries of frame f, the flushes of the slots it detaches included, before the Limit Monitor's
reaction (R38, R39, R44). -/
def enteredIntake (f : Frame) (u : SlotUnit) (h : Intake) : Intake :=
  { history := Vector.ofFn fun t : Fin 64 =>
      if detachedNow f u t then History.holes
      else pushEntry h.history[t] (boundaryEntry f u.map (evaluatedRecords f u)[t] t)
    head := some f.number }

theorem giveEntries_intake (f : Frame) (s : State) :
    (giveEntries f s.slots (evaluateSlots f s)).intake = enteredIntake f s.slots s.intake := by
  simp only [giveEntries, bump_intake, State.intake_setIntake, evaluateSlots_slots, evaluateSlots_intake, enteredIntake]

/-- A shock exit flushes every history, and no other outcome of R117 touches one (R126). -/
theorem limitBoundary_intake (n : Nat) (s : State) :
    (limitBoundary n s).intake =
      if s.limit.mode = .shockHold ∧ (limitBoundary n s).limit.mode ≠ .shockHold then flushedIntake s.intake
      else s.intake := by
  rcases limitBoundary_cases n s with ⟨m, hm, -, e⟩ | ⟨m, hm, -, e⟩ | ⟨hm, -, e⟩ | ⟨hm, -, -, e⟩ | ⟨hm, -, -, e⟩ <;> rw [e]
  case inl | inr.inl => rw [if_neg fun h => m.operating_ne_shockHold (hm.symm.trans h.1)]; rfl
  case inr.inr.inl | inr.inr.inr.inr => rw [if_neg fun h => h.2 hm]; rfl
  case inr.inr.inr.inl => rw [if_pos ⟨hm, ChosenMode.operating_ne_shockHold _⟩]; rfl

theorem boundaryIntake_intake (f : Frame) (s : State) :
    (boundaryIntake f s).intake =
      if s.limit.mode = .shockHold ∧ (boundaryIntake f s).limit.mode ≠ .shockHold then
        flushedIntake (enteredIntake f s.slots s.intake)
      else enteredIntake f s.slots s.intake := by
  have entered := giveEntries_intake f (overrunPass s)
  rw [overrunPass_slots, overrunPass_intake] at entered
  unfold boundaryIntake
  simp only [overrunPass_slots]
  rw [limitBoundary_intake, entered]
  simp

theorem frameBoundary_head (f : Frame) (s : State) : (frameBoundary f s).intake.head = some f.number := by
  rw [frameBoundary_intake, boundaryIntake_intake]
  split <;> rfl

theorem frameBoundary_history_of_exit {f : Frame} {s : State} (hs : s.limit.mode = .shockHold)
    (ht : (frameBoundary f s).limit.mode ≠ .shockHold) (u : Slot) : (frameBoundary f s).intake.history[u] = History.holes := by
  rw [frameBoundary_mode] at ht
  rw [frameBoundary_intake, boundaryIntake_intake, if_pos ⟨hs, ht⟩]
  simp [flushedIntake]

theorem frameBoundary_history_of_no_exit {f : Frame} {s : State}
    (h : ¬ (s.limit.mode = .shockHold ∧ (frameBoundary f s).limit.mode ≠ .shockHold)) (u : Slot) :
    (frameBoundary f s).intake.history[u] =
      if detachedNow f s.slots u then History.holes
      else pushEntry s.intake.history[u] (boundaryEntry f s.slots.map (evaluatedRecords f s.slots)[u] u) := by
  rw [frameBoundary_mode] at h
  rw [frameBoundary_intake, boundaryIntake_intake, if_neg h]
  simp [enteredIntake]

/-! HOLES -/

/-- HOLES counts the holes given to slots that are ATTACHED behind the slot evaluation (R48). -/
theorem giveEntries_holes (f : Frame) (s : State) :
    (giveEntries f s.slots (evaluateSlots f s)).counters[(7 : Fin 10)] =
      countUp s.counters[(7 : Fin 10)] ((List.finRange 64).countP fun u =>
        (evaluatedRecords f s.slots)[u].state == .attached &&
          (boundaryEntry f s.slots.map (evaluatedRecords f s.slots)[u] u).isNone) := by
  refine (bump_counter .holes _ _).trans ?_
  simp only [State.counters_setIntake, evaluateSlots_counters, evaluateSlots_slots]
  rfl

theorem frameBoundary_holes (f : Frame) (s : State) :
    (frameBoundary f s).counters[(7 : Fin 10)] = countUp s.counters[(7 : Fin 10)] ((List.finRange 64).countP fun u =>
      (evaluatedRecords f s.slots)[u].state == .attached &&
        (boundaryEntry f s.slots.map (evaluatedRecords f s.slots)[u] u).isNone) := by
  have given := giveEntries_holes f (overrunPass s)
  rw [overrunPass_slots, overrunPass_counter (by decide)] at given
  rw [frameBoundary_counter (by decide), ← given]
  unfold boundaryIntake
  simp only [overrunPass_slots]
  exact limitBoundary_counter (by decide) _ _

/-- Settles O17. -/
theorem entriesAreGiven : Obligations.EntriesAreGiven := by
  intro f s hm
  have slots := frameBoundary_slots f (boundaryStart f s)
  have head := frameBoundary_head f (boundaryStart f s)
  have holes := frameBoundary_holes f (boundaryStart f s)
  have exit := frameBoundary_history_of_exit (f := f) (s := boundaryStart f s)
  have given := frameBoundary_history_of_no_exit (f := f) (s := boundaryStart f s)
  refine ⟨matchedReturn f s, exec_returnFrame_matching f s hm, ?_⟩
  rw [matchedReturn_eq]
  generalize frameBoundary f (boundaryStart f s) = t at slots head holes exit given ⊢
  rw [boundaryStart_slots] at slots
  rw [slots]
  refine ⟨head, holes, fun u => ?_⟩
  refine ⟨fun c hr hc hu hp hv => boundaryEntry_of_sample hr hc hu hp hv, boundaryEntry_of_detached, boundaryEntry_of_unmapped,
    fun c hc hu => boundaryEntry_of_unused hc hu, fun c hc hv => boundaryEntry_of_no_sample hc hv,
    fun ⟨hs, ht⟩ => exit hs ht u, fun hd => ?_, fun he hd => ?_⟩
  · rw [← detachedNow_iff] at hd
    by_cases he : s.limit.mode = .shockHold ∧ t.limit.mode ≠ .shockHold
    · exact exit he.1 he.2 u
    · exact (given he u).trans (if_pos hd)
  · rw [← detachedNow_iff] at hd
    exact (given he u).trans (if_neg hd)

end Sys2Proof.Machine
end

section
/-! PROOFS. The Pulse Pool behind a frame boundary, and PULSE_DROPPED (R45, R99 to R101, R104, R109, R110). -/

namespace Sys2Proof.Machine

/-! The notices of a frame (R45) -/

/-- The notice in a return half. -/
def noticeIn (t : Slot) (x : SlotCell) : Notice :=
  { slot := t, lengthClass := noticeClass x, direction := noticeDirection x, lead := noticeLead x }

theorem slotNotice_of_mapped {u : SlotUnit} {t : Slot} {c : Fin 64} (hr : u.records[t].state ≠ .detached)
    (hc : u.map[t] = some c) (f : Frame) :
    slotNotice f u t =
      if c.val < f.used.toNat ∧ isPresent f.cells[c] = true ∧ hasNotice f.cells[c] = true then some (noticeIn t f.cells[c])
      else none := by
  unfold slotNotice
  rw [if_neg hr, returnHalf_of_mapped hc]
  by_cases hu : c.val < f.used.toNat
  · simp only [hu, if_true, true_and, ← Bool.and_eq_true]
    rfl
  · simp only [hu, if_false, false_and]

theorem slotNotice_eq_some {f : Frame} {u : SlotUnit} {t : Slot} {n : Notice} :
    slotNotice f u t = some n ↔
      n.slot = t ∧ ∃ c : Fin 64, u.records[t].state ≠ .detached ∧ u.map[t] = some c ∧ c.val < f.used.toNat ∧
        isPresent f.cells[c] = true ∧ hasNotice f.cells[c] = true ∧ n.lengthClass = noticeClass f.cells[c] ∧
        n.direction = noticeDirection f.cells[c] ∧ n.lead = noticeLead f.cells[c] := by
  constructor
  · intro h
    have hr : u.records[t].state ≠ .detached := fun hr => by rw [slotNotice, if_pos hr] at h; cases h
    cases hc : u.map[t] with
    | none =>
      rw [slotNotice, if_neg hr, returnHalf_of_unmapped hc] at h
      cases h
    | some c =>
      rw [slotNotice_of_mapped hr hc] at h
      obtain ⟨⟨hu, hp, hn⟩, taken⟩ := Option.ite_none_right_eq_some.1 h
      cases taken
      exact ⟨rfl, c, hr, rfl, hu, hp, hn, rfl, rfl, rfl⟩
  · obtain ⟨slot, lengthClass, direction, lead⟩ := n
    rintro ⟨rfl, c, hr, hc, hu, hp, hn, rfl, rfl, rfl⟩
    rw [slotNotice_of_mapped hr hc, if_pos ⟨hu, hp, hn⟩]
    rfl

theorem mem_boundaryNotices {f : Frame} {u : SlotUnit} {n : Notice} :
    n ∈ boundaryNotices f u ↔
      ∃ c : Fin 64, u.records[n.slot].state ≠ .detached ∧ u.map[n.slot] = some c ∧ c.val < f.used.toNat ∧
        isPresent f.cells[c] = true ∧ hasNotice f.cells[c] = true ∧ n.lengthClass = noticeClass f.cells[c] ∧
        n.direction = noticeDirection f.cells[c] ∧ n.lead = noticeLead f.cells[c] := by
  simp only [boundaryNotices, List.mem_filterMap, List.mem_finRange, true_and, slotNotice_eq_some]
  exact ⟨fun ⟨t, ht, h⟩ => ht ▸ h, fun h => ⟨n.slot, rfl, h⟩⟩

theorem boundaryNotices_ascending (f : Frame) (u : SlotUnit) :
    (boundaryNotices f u).Pairwise fun a b => a.slot < b.slot := by
  refine List.Pairwise.filterMap _ (fun t v htv a ha b hb => ?_) (List.pairwise_lt_finRange 64)
  rw [(slotNotice_eq_some.1 ha).1, (slotNotice_eq_some.1 hb).1]
  exact htv

/-! The step of the Pulse Scheduler -/

theorem pulseStep_of_taking {mode : OperatingMode} (h : mode = .run ∨ mode = .freeze) (m : Word) (notices : List Notice)
    (pool : List Pulse) :
    pulseStep mode m notices pool =
      notices.foldl (takeNotice m) { pool := retirePulses m pool, drops := 0, reports := [] } := by
  rcases h with rfl | rfl <;> rfl

theorem pulseStep_of_flushing {mode : OperatingMode} (h : mode = .off ∨ mode = .shockHold) (m : Word)
    (notices : List Notice) (pool : List Pulse) :
    (pulseStep mode m notices pool).pool = [] ∧ (pulseStep mode m notices pool).drops = 0 := by
  rcases h with rfl | rfl <;> exact ⟨rfl, rfl⟩

/-- The instances of a pool whose slot frame f does not detach (R109). -/
def stayingPulses (f : Frame) (u : SlotUnit) (pool : List Pulse) : List Pulse :=
  pool.filter fun q => !detachedNow f u q.source

/-- What the Pulse Scheduler makes of its pool at the boundary of frame f, under the mode and the records that result. -/
def boundaryPulses (f : Frame) (s : State) : NoticeStep :=
  pulseStep (frameBoundary f s).limit.mode f.number (boundaryNotices f (frameBoundary f s).slots)
    (stayingPulses f s.slots s.pool)

theorem boundaryIntake_pool (f : Frame) (s : State) : (boundaryIntake f s).pool = stayingPulses f s.slots s.pool := by
  simp [boundaryIntake, evaluateSlots, stayingPulses]

/-- The step of the boundary is taken on the pool as the Slot Map unit leaves it. -/
theorem boundaryPulses_eq (f : Frame) (s : State) :
    boundaryPulses f s =
      pulseStep (boundaryIntake f s).limit.mode f.number (boundaryNotices f (boundaryIntake f s).slots)
        (boundaryIntake f s).pool := by
  rw [boundaryPulses, frameBoundary_mode, frameBoundary_slots, boundaryIntake_slots, boundaryIntake_pool]

/-- The Bank Engine's reaction, which comes first, leaves mode and pool. -/
theorem pulseStep_behind_engine (f : Frame) (s : State) :
    pulseStep (engineBoundary (boundaryIntake f s)).limit.mode f.number (boundaryNotices f (boundaryIntake f s).slots)
      (engineBoundary (boundaryIntake f s)).pool = boundaryPulses f s := by
  rw [boundaryPulses_eq, engineBoundary_mode, engineBoundary_pool]

theorem frameBoundary_pool (f : Frame) (s : State) : (frameBoundary f s).pool = (boundaryPulses f s).pool := by
  rw [← pulseStep_behind_engine]
  simp [frameBoundary, pulseBoundary]

theorem boundaryIntake_counter {d : Fin 10} (h4 : d ≠ 4) (h7 : d ≠ 7) (h9 : d ≠ 9) (f : Frame) (s : State) :
    (boundaryIntake f s).counters[d] = s.counters[d] := by
  unfold boundaryIntake
  simp only []
  rw [limitBoundary_counter h9]
  unfold giveEntries
  simp only []
  rw [bump_counter_ne h7, State.counters_setIntake, evaluateSlots_counters, overrunPass_counter h4]

theorem frameBoundary_pulseDrop (f : Frame) (s : State) :
    (frameBoundary f s).counters[(5 : Fin 10)] = countUp s.counters[(5 : Fin 10)] (boundaryPulses f s).drops := by
  rw [← pulseStep_behind_engine, ← boundaryIntake_counter (d := 5) (by decide) (by decide) (by decide) f s]
  unfold frameBoundary pulseBoundary
  simp only [persistBoundary_counters, captureBoundary_counters, leaseBoundary_counters, startPass_counters, raiseIf_counters]
  refine (bump_counter .pulseDrop _ _).trans ?_
  simp only [State.counters_setPool, engineBoundary_counters, counterItem]

theorem evaluateSlots_raisesOnly (f : Frame) (s : State) : RaisesOnly [12] s (evaluateSlots f s) := by
  have moved : RaisesOnly [] s ((s.setPool (s.pool.filter fun q => !detachedNow f s.slots q.source)).setSlots
      { s.slots with records := evaluatedRecords f s.slots }) :=
    .of_eq (by rw [State.alerts_setSlots, State.alerts_setPool])
  unfold evaluateSlots
  exact moved.trans (.raiseIf (by decide) _ _)

theorem boundaryIntake_raisesOnly (f : Frame) (s : State) : RaisesOnly [13, 12, 1, 15] s (boundaryIntake f s) := by
  have evaluated := (overrunPass_raisesOnly s).trans (evaluateSlots_raisesOnly f (overrunPass s))
  have given : RaisesOnly [] (evaluateSlots f (overrunPass s))
      (giveEntries f (overrunPass s).slots (evaluateSlots f (overrunPass s))) := .of_eq (giveEntries_alerts f _ _)
  unfold boundaryIntake
  exact (evaluated.trans given).trans (limitBoundary_raisesOnly _ _)

/-- Behind the Pulse Scheduler's step no reaction to a boundary raises PULSE_DROPPED. -/
theorem frameBoundary_raisesOnly_behind_pulses (f : Frame) (s : State) :
    RaisesOnly [8, 13, 6]
      (pulseBoundary f.number (boundaryNotices f (boundaryIntake f s).slots) (engineBoundary (boundaryIntake f s)))
      (frameBoundary f s) := by
  have started : ∀ r, RaisesOnly [] r (startPass f.number r) := fun r => .of_eq (startPass_alerts f.number r)
  unfold frameBoundary
  exact (((started _).trans (leaseBoundary_raisesOnly _)).trans (captureBoundary_raisesOnly _ _ _ _)).trans
    (persistBoundary_raisesOnly _)

theorem pulseBoundary_pulseDropped (m : Word) (notices : List Notice) (s : State) :
    (pulseBoundary m notices s).alerts.pending.getLsbD (11 : Fin 16) = true ↔
      s.alerts.pending.getLsbD (11 : Fin 16) = true ∨ 0 < (pulseStep s.limit.mode m notices s.pool).drops := by
  unfold pulseBoundary
  simp only []
  rw [pending_raiseIf, bump_alerts, State.alerts_setPool, decide_eq_true_iff]
  exact or_congr_right (and_iff_left rfl)

/-- A drop is the only thing at a boundary that raises PULSE_DROPPED (R104). -/
theorem frameBoundary_pulseDropped (f : Frame) (s : State) :
    (frameBoundary f s).alerts.pending.getLsbD (11 : Fin 16) = true ↔
      s.alerts.pending.getLsbD (11 : Fin 16) = true ∨ 0 < (boundaryPulses f s).drops := by
  have before := (boundaryIntake_raisesOnly f s).trans (engineBoundary_raisesOnly (boundaryIntake f s))
  rw [frameBoundary_raisesOnly_behind_pulses f s 11 (by decide), pulseBoundary_pulseDropped, before 11 (by decide),
    pulseStep_behind_engine]

/-- Settles O20. -/
theorem poolAtTheBoundary : Obligations.PoolAtTheBoundary := by
  intro f s hm
  have slots := frameBoundary_slots f (boundaryStart f s)
  have pool := frameBoundary_pool f (boundaryStart f s)
  have drops := frameBoundary_pulseDrop f (boundaryStart f s)
  have dropped := frameBoundary_pulseDropped f (boundaryStart f s)
  unfold boundaryPulses at pool drops dropped
  refine ⟨matchedReturn f s, exec_returnFrame_matching f s hm, ?_⟩
  rw [matchedReturn_eq]
  generalize frameBoundary f (boundaryStart f s) = t at slots pool drops dropped ⊢
  simp only [boundaryStart_slots, boundaryStart_pool] at slots pool drops dropped
  refine ⟨fun hmode => ?_, fun hmode => ⟨boundaryNotices f t.slots, fun n => mem_boundaryNotices,
    boundaryNotices_ascending f t.slots, ?_⟩⟩
  · obtain ⟨empty, none_dropped⟩ := pulseStep_of_flushing hmode f.number (boundaryNotices f t.slots)
      (stayingPulses f s.slots s.pool)
    rw [none_dropped] at drops dropped
    refine ⟨pool.trans empty, drops.trans (countUp_zero _), ?_⟩
    exact Bool.eq_iff_iff.2 (dropped.trans (or_iff_left (Nat.lt_irrefl 0)))
  · rw [pulseStep_of_taking hmode] at pool drops dropped
    have stay : stayingPulses f s.slots s.pool = s.pool.filter fun q =>
        decide (¬ (s.slots.records[q.source].state ≠ .detached ∧ t.slots.records[q.source].state = .detached)) := by
      refine List.filter_congr fun q _ => ?_
      rw [slots, Bool.eq_iff_iff, decide_eq_true_iff, Bool.not_eq_true', ← detachedNow_iff, Bool.not_eq_true]
    rw [stay] at pool drops dropped
    exact ⟨pool, drops, dropped⟩

end Sys2Proof.Machine
end

section
/-! PROOFS. A read of a history by frame number, and the value a target's work comes to: the filtered terms, the pulse terms and the
pieces (R41, R42, R76 to R79, R97). -/

namespace Sys2Proof.Machine

/-! Reads by frame number (R41) -/

theorem readHistory_of_age {h : History} {n j : Word} {a : Fin 32} (ha : (n - j).toNat = a.val) :
    readHistory h (some n) j = h[a] := by
  simp only [readHistory, ha, a.isLt, dite_true]
  rfl

theorem readHistory_of_old {n j : Word} (h : History) (ha : 32 ≤ (n - j).toNat) : readHistory h (some n) j = none :=
  dif_neg (Nat.not_lt.2 ha)

/-- Settles O32. -/
theorem historyReadByFrameNumber : Obligations.HistoryReadByFrameNumber := by
  intro h head j
  refine ⟨?_, ?_, ?_⟩
  · rintro rfl
    rfl
  · rintro n a rfl ha
    exact readHistory_of_age ha
  · rintro n rfl ha
    exact readHistory_of_old h ha

/-! Staleness and rounding (R42, R77) -/

theorem isStale_iff (h : History) : isStale h = true ↔ ∀ a : Fin 32, a.val < 4 → h[a] = none := by
  constructor
  · intro hs
    simp only [isStale, Bool.and_eq_true, Option.isNone_iff_eq_none] at hs
    obtain ⟨⟨⟨h0, h1⟩, h2⟩, h3⟩ := hs
    rintro ⟨a, ha⟩ (ha4 : a < 4)
    interval_cases a
    exacts [h0, h1, h2, h3]
  · intro hs
    simp only [isStale, Bool.and_eq_true, Option.isNone_iff_eq_none]
    exact ⟨⟨⟨hs 0 (by decide), hs 1 (by decide)⟩, hs 2 (by decide)⟩, hs 3 (by decide)⟩

theorem round14_eq (v : Int) : round14 v = (v + 8192) / 16384 := Int.fdiv_eq_ediv_of_nonneg _ (by decide)

theorem filteredTerm_eq_sum (s : State) (m : Word) (e : Entry) :
    filteredTerm s m e =
      (∑ i : Fin 16, (liveBank s.banks).kernels[e.kernel].taps[i].toInt *
        entryValue (readHistory s.intake.history[e.source] s.intake.head
          (m - BitVec.ofNat 16 e.delay.val - BitVec.ofNat 16 i.val)) + 8192) / 16384 := by
  rw [filteredTerm, round14_eq, Fin.sum_univ_def]

theorem derate_rows (v : Int) :
    derate .normal v = v ∧ derate .level1 v = (v + 1) / 2 ∧ derate .level2 v = (v + 2) / 4 ∧ derate .muted v = v :=
  ⟨rfl, Int.fdiv_eq_ediv_of_nonneg _ (by decide), Int.fdiv_eq_ediv_of_nonneg _ (by decide), rfl⟩

/-! Pieces of work (R76, log 14) -/

section
variable (s : State) (m : Word) (t : Slot)

/-- What position p of the live row of a target adds to its sum. -/
def rowTerm (p : Fin 8) : Int := positionTerm s m (liveBank s.banks).rows[t][p]

variable {s m t}

theorem advanceWork_position {w : TargetWork} {p : Fin 8} (h : w.position = p.val) :
    advanceWork s m t w = { w with position := p.val + 1, sum := w.sum + rowTerm s m t p } := by
  simp only [advanceWork, h, p.isLt, dite_true]
  rfl

theorem advanceWork_shift {w : TargetWork} (h : 8 ≤ w.position) (hd : w.derated = none) :
    advanceWork s m t w = { w with derated := some (derate s.limit.records[t].level (round14 w.sum)) } := by
  simp only [advanceWork, dif_neg (Nat.not_lt.2 h), hd]

theorem advanceWork_done {w : TargetWork} (h : 8 ≤ w.position) (hd : w.derated.isSome = true) :
    advanceWork s m t w = w := by
  obtain ⟨v, hv⟩ := Option.isSome_iff_exists.1 hd
  simp only [advanceWork, dif_neg (Nat.not_lt.2 h), hv]

theorem advanceWork_position_behind {w : TargetWork} (h : 8 ≤ w.position) :
    (advanceWork s m t w).position = w.position := by
  cases hd : w.derated with
  | none => rw [advanceWork_shift h hd]
  | some v => rw [advanceWork_done h (by rw [hd]; rfl)]

theorem workSteps_succ (n : Nat) (w : TargetWork) :
    workSteps s m t (n + 1) w = advanceWork s m t (workSteps s m t n w) := by
  induction n generalizing w with
  | zero => rfl
  | succ n ih => exact ih (advanceWork s m t w)

theorem workSteps_done {w : TargetWork} (h : 8 ≤ w.position) (hd : w.derated.isSome = true) (n : Nat) :
    workSteps s m t n w = w := by
  induction n with
  | zero => rfl
  | succ n ih => rw [workSteps_succ, ih, advanceWork_done h hd]

/-- Each piece goes one row position on, until the eighth is behind. -/
theorem workSteps_position (n : Nat) (w : TargetWork) : min 8 (w.position + n) ≤ (workSteps s m t n w).position := by
  induction n with
  | zero => exact Nat.min_le_right _ _
  | succ n ih =>
    rw [workSteps_succ]
    generalize workSteps s m t n w = x at ih
    rcases Nat.lt_or_ge x.position 8 with hx | hx
    · rw [advanceWork_position (p := ⟨x.position, hx⟩) rfl]
      show min 8 (w.position + (n + 1)) ≤ x.position + 1
      omega
    · rw [advanceWork_position_behind hx]
      exact (Nat.min_le_left _ _).trans hx

/-- Nine pieces finish any work: the rows that are left, and the shift. -/
theorem workSteps_nine (w : TargetWork) :
    8 ≤ (workSteps s m t 9 w).position ∧ (workSteps s m t 9 w).derated.isSome = true := by
  have rows : 8 ≤ (workSteps s m t 8 w).position := le_trans (by omega) (workSteps_position 8 w)
  rw [workSteps_succ]
  generalize workSteps s m t 8 w = x at rows
  cases hd : x.derated with
  | none => rw [advanceWork_shift rows hd]; exact ⟨rows, rfl⟩
  | some v => rw [advanceWork_done rows (by rw [hd]; rfl), hd]; exact ⟨rows, rfl⟩

/-- On an unchanged state the value is the same from one piece on. -/
theorem deratedValue_advanceWork (w : TargetWork) :
    deratedValue s m t (advanceWork s m t w) = deratedValue s m t w := by
  obtain ⟨rows, shifted⟩ := workSteps_nine (s := s) (m := m) (t := t) w
  unfold deratedValue
  rw [show workSteps s m t 9 (advanceWork s m t w) = workSteps s m t 10 w from rfl, workSteps_succ,
    advanceWork_done rows shifted]

theorem deratedValue_done {w : TargetWork} {v : Int} (h : 8 ≤ w.position) (hd : w.derated = some v) :
    deratedValue s m t w = v := by
  rw [deratedValue, workSteps_done h (by rw [hd]; rfl), hd]
  rfl

/-- The sum so far is that of the row positions taken. -/
theorem workSteps_start (n : Nat) (hn : n ≤ 8) :
    workSteps s m t n TargetWork.start =
      { position := n, sum := ∑ p : Fin n, rowTerm s m t (p.castLE hn), derated := none } := by
  induction n with
  | zero => rfl
  | succ n ih =>
    rw [workSteps_succ, ih (by omega), advanceWork_position (p := ⟨n, hn⟩) rfl, Fin.sum_univ_castSucc]
    rfl

theorem deratedValue_start :
    deratedValue s m t TargetWork.start = derate s.limit.records[t].level (round14 (∑ p : Fin 8, rowTerm s m t p)) := by
  rw [deratedValue, workSteps_succ, workSteps_start 8 le_rfl, advanceWork_shift (Nat.le_refl 8) rfl]
  rfl

end

/-! The pulse term (R78, R97) -/

theorem pulseOf_of_mem {pool : List Pulse} (hn : (pool.map (·.source)).Nodup) {q : Pulse} (hq : q ∈ pool) :
    pulseOf pool q.source = some q := by
  cases hf : pulseOf pool q.source with
  | none => exact absurd (List.find?_eq_none.1 hf q hq) (by simp)
  | some p =>
    have same : p.source = q.source := by simpa using List.find?_some hf
    rw [List.inj_on_of_nodup_map hn (List.mem_of_find?_eq_some hf) hq same]

theorem pulseOf_of_no_source {pool : List Pulse} {t : Slot} (h : ∀ q, q ∈ pool → q.source ≠ t) : pulseOf pool t = none :=
  List.find?_eq_none.2 fun q hq => by simpa using h q hq

theorem playIndex_of_playing {onset m : Word} {j : Fin 32} (h : (m + 1 - onset).toNat = j.val) :
    playIndex onset m = some (j.val : Int) := by
  have playing : (m + 1 - onset).toNat < Config.templateLength := h ▸ j.isLt
  rw [playIndex, if_pos playing, h]

/-- Outside the template an instance is PENDING or expired. -/
theorem playIndex_of_not_playing {onset m : Word} (h : 32 ≤ (m + 1 - onset).toNat) {j : Int}
    (hj : playIndex onset m = some j) : j < 0 := by
  have bound := (m + 1 - onset).isLt
  unfold playIndex Config.templateLength at hj
  simp only [] at hj
  rw [if_neg (Nat.not_lt.2 h)] at hj
  obtain ⟨-, rest⟩ := Option.ite_none_right_eq_some.1 hj
  have back := Option.some.inj rest
  omega

theorem templateSample_get (b : Bank) (k : Fin 8) (j : Fin 32) :
    templateSample b k (j.val : Int) = b.templates[k][j].toInt := by
  simp [templateSample]

/-- A term with the sign of a direction (R78). -/
def directed (d : Direction) (v : Int) : Int :=
  match d with
  | .inward => v
  | .outward => -v

section
variable {s : State} {m : Word} {e : Entry}

theorem pulseTerm_of_no_gain (h : e.pulseGain = none) : pulseTerm s m e = 0 := by
  simp only [pulseTerm, h]

theorem pulseTerm_of_no_pulse (h : pulseOf s.pool e.source = none) : pulseTerm s m e = 0 := by
  cases hg : e.pulseGain with
  | none => exact pulseTerm_of_no_gain hg
  | some g => simp only [pulseTerm, hg, h]

theorem pulseTerm_of_playing {g : Word} (hg : e.pulseGain = some g) {q : Pulse} (hq : pulseOf s.pool e.source = some q)
    {j : Fin 32} (hj : (m + 1 - q.onset).toNat = j.val) :
    pulseTerm s m e =
      directed q.direction ((liveBank s.banks).templates[q.lengthClass][j].toInt * g.toInt) := by
  have played : (0 : Int) ≤ j.val := Int.natCast_nonneg _
  simp only [pulseTerm, hg, hq, playIndex_of_playing hj, if_pos played, templateSample_get]
  rfl

theorem pulseTerm_of_not_playing {g : Word} (hg : e.pulseGain = some g) {q : Pulse}
    (hq : pulseOf s.pool e.source = some q) (hj : 32 ≤ (m + 1 - q.onset).toNat) : pulseTerm s m e = 0 := by
  cases hp : playIndex q.onset m with
  | none => simp only [pulseTerm, hg, hq, hp]
  | some j => simp only [pulseTerm, hg, hq, hp, if_neg (Int.not_le.2 (playIndex_of_not_playing hj hp))]

end

/-! The obligation -/

/-- Settles O31: the pieces of a target's work, and the pulse term of an entry. -/
theorem deratedValueOfATarget : Obligations.DeratedValueOfATarget := by
  refine ⟨?_, ?_⟩
  · intro s m t live round stale value filtered terms shifted
    have hround : ∀ v, round v = round14 v := fun v => (round14_eq v).symm
    have hshifted : ∀ v, shifted v = derate s.limit.records[t].level v := by
      intro v
      obtain ⟨normal, level1, level2, muted⟩ := derate_rows v
      simp only [shifted]
      cases s.limit.records[t].level
      exacts [normal.symm, level1.symm, level2.symm, muted.symm]
    have hvalue : ∀ x, value x = entryValue x := fun x => by cases x <;> rfl
    have hfiltered : ∀ e, filtered e =
        if isStale s.intake.history[e.source] then 0 else filteredTerm s m e * e.gain.toInt := by
      intro e
      simp only [filtered, stale, hvalue, hround, isStale_iff, filteredTerm_eq_sum, round14_eq, live]
    have hterms : ∀ p : Fin 8, terms p = rowTerm s m t p := by
      intro p
      simp only [terms, hfiltered, rowTerm]
      cases live.rows[t][p] <;> rfl
    simp only [hterms, hshifted, hround]
    exact ⟨deratedValue_start, fun w => ⟨fun p hp => advanceWork_position hp, advanceWork_shift, advanceWork_done,
      deratedValue_advanceWork w, fun v => deratedValue_done⟩⟩
  · intro s m e hn
    refine ⟨pulseTerm_of_no_gain, fun h => pulseTerm_of_no_pulse (pulseOf_of_no_source h), fun g q hg hq hs => ?_⟩
    have found : pulseOf s.pool e.source = some q := hs ▸ pulseOf_of_mem hn hq
    refine ⟨fun j hj => ?_, pulseTerm_of_not_playing hg found⟩
    exact (pulseTerm_of_playing hg found hj).trans (by cases q.direction <;> rfl)

end Sys2Proof.Machine
end

section
/-! SUPPORT. An invariant of what lies behind the loop: the frames, the lock and the command area change it only through commands,
resets and frame boundaries. -/

namespace Sys2Proof.Machine

/-- An invariant that looks at neither ports, histories, pass, pool, management, alerts, counters nor capture, and that every
decided command, every reset and every frame boundary keeps. -/
structure LoopInvariant (P : State → Prop) : Prop where
  setPorts : ∀ {s} (x : LoopPorts), P s → P (s.setPorts x)
  setIntake : ∀ {s} (x : Intake), P s → P (s.setIntake x)
  setCoupling : ∀ {s} (x : Coupling), P s → P (s.setCoupling x)
  setPool : ∀ {s} (x : List Pulse), P s → P (s.setPool x)
  setMgmt : ∀ {s} (x : Management), P s → P (s.setMgmt x)
  setAlerts : ∀ {s} (x : AlertUnit), P s → P (s.setAlerts x)
  setCounters : ∀ {s} (x : Vector Word 10), P s → P (s.setCounters x)
  setCapture : ∀ {s} (x : Capture), P s → P (s.setCapture x)
  decide : ∀ {s} (code : Byte) (r : Request), P s → P (decideCommand code r s).1
  cold : ∀ {s} (u : StartUp), P s → P (coldStart u s)
  warm : ∀ {s} (k : ResetReason) (c : PortCondition), P s → P (warmActions k c s)
  boundary : ∀ {s} (f : Frame), P s → P (frameBoundary f s)

namespace LoopInvariant

variable {P : State → Prop} {s t : State}

/-! Commands (R12) -/

theorem answerCommand (h : LoopInvariant P) (sent decided : Byte) (r : Request) (hs : P s) :
    P (answerCommand sent r (decideCommand decided r) s) :=
  h.setMgmt _ (h.decide decided r (h.setMgmt _ hs))

theorem takeCommand (h : LoopInvariant P) (sent decided : Byte) (r : Request) (hs : P s) :
    P (takeCommand sent r (decideCommand decided r) s) := by
  unfold Machine.takeCommand
  split
  · split
    · exact h.answerCommand sent decided r hs
    · exact h.setCounters _ hs
  · exact hs

theorem areaCell (h : LoopInvariant P) (a : AreaStep) (c : MgmtCell) (ha : P a.state) : P (areaCell a c).1.state := by
  rcases areaCell_cases a c with hc | ⟨-, hc⟩ | ⟨-, k, hc⟩ | ⟨-, -, hc⟩ <;> rw [hc]
  · exact ha
  · exact h.setCounters _ ha
  · exact h.setMgmt _ (h.setMgmt _ ha)
  · exact h.answerCommand _ _ _ ha

theorem takeCells (h : LoopInvariant P) (lo hi : Nat) (cells : Vector MgmtCell 4) (a : AreaStep) (ha : P a.state) :
    P (takeCells lo hi cells a).1.state :=
  takeCells_preserves (fun a => P a.state) h.areaCell lo hi cells a ha

theorem takeFirst (h : LoopInvariant P) (k : Nat) (cells : Vector MgmtCell 4) (hs : P s) : P (takeFirst k cells s).1.state :=
  h.takeCells 0 k cells _ hs

/-! The outbound passage (R10, R11) -/

theorem composeCell (h : LoopInvariant P) (pos : Fin 64) (f : Frame) (hs : P s) : P (composeCell pos f s).2 := by
  rcases composeCell_state pos f s with hc | hc <;> rw [hc]
  · exact hs
  · exact h.setAlerts _ (h.setCounters _ hs)

theorem composeFrom (h : LoopInvariant P) (n : Nat) (f : Frame) (hs : P s) : P (composeFrom n f s).2 :=
  composeFrom_preserves (fun a => P a.2) (fun pos f _ => h.composeCell pos f) n f s hs

theorem giveHole (h : LoopInvariant P) (j : Word) (hs : P s) : P (giveHole j s) := h.setCounters _ (h.setIntake _ hs)

theorem giveHoles (h : LoopInvariant P) (p : Word) (g : Nat) (hs : P s) : P (giveHoles p g s) :=
  giveHoles_preserves P (fun j _ => h.giveHole j) p g s hs

theorem gapTested (h : LoopInvariant P) (f : Frame) (hs : P s) : P (gapTested f s) := by
  unfold Machine.gapTested
  split
  · next p _ =>
    have spent : P (if s.ports.frameMatch = .awaiting then
        bump .retMismatch 1 (Machine.giveHole p.number (s.setPorts { s.ports with frameMatch := .spent })) else s) := by
      split
      · exact h.setCounters _ (h.giveHole _ (h.setPorts _ hs))
      · exact hs
    unfold gapTest
    simp only []
    split
    · exact h.setIntake _ spent
    · exact h.giveHoles _ _ spent
  · exact hs

theorem beginReset (h : LoopInvariant P) (k : Option ResetKind) (hs : P s) : P (beginReset k s) :=
  beginReset_of_some (fun _ => hs) (h.cold _ hs) (h.warm _ _ hs)

theorem endOutbound (h : LoopInvariant P) (f : Frame) {a : AreaStep × Vector MgmtCell 4} (ha : P a.1.state) :
    P (endOutbound f a) := h.beginReset _ (h.setPorts _ ha)

theorem finishPassage (h : LoopInvariant P) (hs : P s) : P (finishPassage s) := by
  unfold Machine.finishPassage
  split
  · exact hs
  · exact h.endOutbound _ (h.takeCells _ _ _ _ (h.composeFrom _ _ hs))

theorem lockedOutbound (h : LoopInvariant P) (f : Frame) (m : Composition) (hs : P s) : P (lockedOutbound f m s) := by
  have composed : P (Machine.composeFrom 0 f (Machine.gapTested f s)).2 := h.composeFrom 0 f (h.gapTested f hs)
  cases m with
  | atOnce => rw [lockedOutbound_atOnce]; exact h.endOutbound _ (h.takeFirst _ _ composed)
  | cut k => rw [lockedOutbound_cut]; exact h.endOutbound _ (h.takeFirst _ _ composed)
  | byCell => rw [lockedOutbound_byCell]; exact h.setPorts _ (h.gapTested f hs)

theorem outboundCellArrival (h : LoopInvariant P) (hs : P s) (hx : exec .outboundCellArrival s = .next t) : P t := by
  simp only [exec, execOutboundCellArrival] at hx
  split at hx
  · cases hx; exact hs
  · next c _ =>
    split at hx <;> cases hx
    · exact h.setPorts _ (h.composeCell _ _ hs)
    · have arrived := h.areaCell { state := s, reset := c.reset }
        c.frame.commands[Fin.ofNat 4 (c.next - c.frame.used.toNat)] hs
      unfold arriveCommand
      simp only []
      split
      · exact h.setPorts _ arrived
      · exact h.endOutbound _ arrived

/-! Lock (R8, R9) -/

theorem cutPassage (h : LoopInvariant P) (hs : P s) : P (cutPassage s) := by
  unfold Machine.cutPassage
  split
  · exact hs
  · exact h.setPorts _ hs

theorem endPassage (h : LoopInvariant P) (hs : P s) : P (endPassage s) := h.beginReset _ (h.cutPassage hs)

theorem loseLock (h : LoopInvariant P) (hs : P s) : P (loseLock s) :=
  h.setCapture _ (h.setCoupling _ (h.setPool _ (h.setIntake _ (h.setPorts _ (h.endPassage hs)))))

theorem searchOutbound (h : LoopInvariant P) (f : Frame) (hs : P s) : P (searchOutbound f s) := by
  unfold Machine.searchOutbound
  split
  · split
    · split
      · exact h.setAlerts _ (h.setPorts _ hs)
      · exact h.setPorts _ hs
    · exact h.setPorts _ hs
  · exact h.setCounters _ (h.setPorts _ hs)

theorem badOutbound (h : LoopInvariant P) (hs : P s) : P (badOutbound s) := by
  have counted : P (bump .outbCheck 1 (s.setPorts { s.ports with badRun := s.ports.badRun + 1 })) :=
    h.setCounters _ (h.setPorts _ hs)
  unfold Machine.badOutbound
  simp only []
  split
  · exact h.loseLock counted
  · exact counted

theorem outboundFrame (h : LoopInvariant P) {f : Frame} {b : PassageStart} {m : Composition} (hs : P s)
    (hx : exec (.outboundFrame f b m) s = .next t) : P t := by
  have finished := h.finishPassage hs
  have forwarded : P (forwardOutbound f (Machine.finishPassage s)) := h.setPorts _ finished
  simp only [exec, execOutboundFrame] at hx
  split at hx
  · cases hx; exact hs
  · split at hx
    · cases hx; exact forwarded
    · split at hx
      · cases hx; exact h.searchOutbound f forwarded
      · split at hx <;> cases hx
        · exact h.lockedOutbound f m finished
        · exact h.badOutbound forwarded

theorem lineIdle (h : LoopInvariant P) (hs : P s) (hx : exec .lineIdle s = .next t) : P t := by
  simp only [exec, execLineIdle] at hx
  split at hx <;> cases hx
  · exact h.setPorts _ hs
  · exact h.loseLock hs
  · exact hs

theorem lockLoss (h : LoopInvariant P) (hs : P s) (hx : exec .lockLoss s = .next t) : P t := by
  cases hx
  split
  · exact h.loseLock hs
  · exact hs

/-! The return passage (R14 to R17) -/

theorem failedReturn (h : LoopInvariant P) (c : CounterId) (f : Frame) (hs : P s) : P (failedReturn c f s) := by
  have counted : P (forwardReturn f (bump c 1 s)) := h.setPorts _ (h.setCounters _ hs)
  unfold Machine.failedReturn
  simp only []
  split
  · exact h.giveHole _ (h.setPorts _ counted)
  · exact counted

theorem receivedReturn (h : LoopInvariant P) (f : Frame) (hs : P s) : P (receivedReturn f s) := by
  unfold Machine.receivedReturn
  split
  · exact h.failedReturn _ f hs
  · split
    · exact h.boundary f (h.setMgmt _ (h.setPorts _ hs))
    · exact h.failedReturn _ f hs

theorem returnFrame (h : LoopInvariant P) {f : Frame} {p : ReturnPassage} (hs : P s)
    (hx : exec (.returnFrame f p) s = .next t) : P t := by
  have forwarded : P (forwardReturn f s) := h.setPorts _ hs
  simp only [exec, execReturnFrame] at hx
  split at hx
  · cases hx; exact hs
  · split at hx
    · cases hx; exact forwarded
    · split at hx
      · cases hx
        split
        · exact h.setMgmt _ (h.setPorts _ hs)
        · exact forwarded
      all_goals cases hx; exact h.receivedReturn f hs

/-! RESET rows (R18, R159) -/

theorem closePassage (h : LoopInvariant P) (hs : P s) : P (closePassage s) := by
  unfold Machine.closePassage
  split
  · exact hs
  · exact h.cutPassage (h.setPorts _ (h.composeFrom _ _ hs))

theorem takeReset (h : LoopInvariant P) (k : ResetKind) (r : Request) (hs : P s) : P (takeReset k r s) := by
  unfold Machine.takeReset
  split
  · split
    · exact h.beginReset _ (h.setMgmt _ (h.setMgmt _ (h.closePassage hs)))
    · exact h.setCounters _ hs
  · exact hs

end LoopInvariant

end Sys2Proof.Machine
end

section
/-! SUPPORT. Lawful rows position by position, and what the writes to a bank and the Bank Engine's copy leave of them (R54, R61 to
R65). -/

namespace Sys2Proof.Machine

/-! Rows -/

theorem mem_presentEntries {row : Row} {e : Entry} : e ∈ presentEntries row ↔ ∃ p : Fin 8, row[p] = some e := by
  simp only [presentEntries, List.mem_filterMap, id, exists_eq_right, Vector.mem_toList_iff, Vector.mem_iff_getElem]
  exact ⟨fun ⟨i, hi, h⟩ => ⟨⟨i, hi⟩, h⟩, fun ⟨p, h⟩ => ⟨p, p.isLt, h⟩⟩

theorem nodup_sources_iff (row : Row) :
    ((presentEntries row).map (·.source)).Nodup ↔
      ∀ p q : Fin 8, p < q → ∀ e, row[p] = some e → ∀ f, row[q] = some f → e.source ≠ f.source := by
  rw [presentEntries, List.Nodup, List.pairwise_map, List.pairwise_filterMap, List.pairwise_iff_getElem]
  simp only [Vector.length_toList, Vector.getElem_toList, id]
  exact ⟨fun h p q hpq => h p q p.isLt q.isLt hpq, fun h i j hi hj hij => h ⟨i, hi⟩ ⟨j, hj⟩ hij⟩

/-- R54, position by position: no source is the target, and two positions hold two sources. -/
theorem lawfulRow_iff (t : Slot) (row : Row) :
    lawfulRow t row = true ↔
      (∀ (p : Fin 8) (e : Entry), row[p] = some e → e.source ≠ t) ∧
      ∀ p q : Fin 8, p ≠ q → ∀ e, row[p] = some e → ∀ f, row[q] = some f → e.source ≠ f.source := by
  simp only [lawfulRow, Bool.and_eq_true, List.all_eq_true, mem_presentEntries, bne_iff_ne, decide_eq_true_eq,
    nodup_sources_iff, forall_exists_index]
  refine and_congr ⟨fun h p e => h e p, fun h e p => h p e⟩ ⟨fun h p q hpq e he f hf => ?_, fun h p q hpq => h p q hpq.ne⟩
  rcases lt_or_gt_of_ne hpq with lt | gt
  · exact h p q lt e he f hf
  · exact (h q p gt f hf e he).symm

/-- A lawful row stays so when a position becomes absent, or holds an entry whose source is neither the target nor at another
position. -/
theorem lawfulRow_set {t : Slot} {row : Row} (h : lawfulRow t row = true) (p : Fin 8) {x : Option Entry}
    (hx : ∀ e, x = some e → e.source ≠ t ∧ ∀ q : Fin 8, q ≠ p → ∀ f, row[q] = some f → f.source ≠ e.source) :
    lawfulRow t (row.set p x) = true := by
  obtain ⟨target, distinct⟩ := (lawfulRow_iff t row).1 h
  have cases : ∀ (q : Fin 8) (e : Entry), (row.set p x)[q] = some e → q = p ∧ x = some e ∨ q ≠ p ∧ row[q] = some e := by
    intro q e hq
    by_cases hqp : q = p
    · subst hqp
      exact .inl ⟨rfl, by simpa using hq⟩
    · have : p.val ≠ q.val := fun e => hqp (Fin.ext e.symm)
      exact .inr ⟨hqp, by simpa [Vector.getElem_set, this] using hq⟩
  refine (lawfulRow_iff t _).2 ⟨fun q e hq => ?_, fun q w hqw e he f hf => ?_⟩
  · rcases cases q e hq with ⟨-, hq⟩ | ⟨-, hq⟩
    · exact (hx e hq).1
    · exact target q e hq
  · rcases cases q e he with ⟨hqp, he⟩ | ⟨hqp, he⟩ <;> rcases cases w f hf with ⟨hwp, hf⟩ | ⟨hwp, hf⟩
    · exact absurd (hqp.trans hwp.symm) hqw
    · exact ((hx e he).2 w hwp f hf).symm
    · exact (hx f hf).2 q hqp e he
    · exact distinct q w hqw e he f hf

theorem duplicates_iff (row : Row) (p : Fin 8) (source : Slot) :
    duplicates row p source = true ↔ ∃ q : Fin 8, q ≠ p ∧ ∃ e, row[q] = some e ∧ e.source = source := by
  simp [duplicates, Option.any_eq_true]

/-! Banks -/

theorem RowsLawful.setPosition {b : Bank} (h : RowsLawful b) (t : Slot) (p : Fin 8) {x : Option Entry}
    (hx : ∀ e, x = some e → e.source ≠ t ∧ ∀ q : Fin 8, q ≠ p → ∀ f, b.rows[t][q] = some f → f.source ≠ e.source) :
    RowsLawful (setPosition b t p x) := by
  intro u
  simp only [Machine.setPosition, Fin.getElem_fin, Vector.getElem_set]
  split
  · next htu =>
    obtain rfl : t = u := Fin.ext htu
    exact lawfulRow_set (h t) p hx
  · exact h u

theorem RowsLawful.ctReplace {b c : Bank} (h : RowsLawful b) {it : CtItem} {i : Nat} (hc : ctReplace it i b = some c) :
    RowsLawful c := by
  unfold Machine.ctReplace at hc
  simp only [] at hc
  split at hc
  · obtain rfl := Option.some.inj hc
    exact h.setPosition _ _ (by simp)
  · split at hc
    · simp at hc
    · next e _ =>
      split at hc
      · simp at hc
      · next hclash =>
        obtain ⟨target, unique⟩ := not_or.1 hclash
        obtain rfl := Option.some.inj hc
        refine h.setPosition _ _ fun x hx => ?_
        obtain rfl := Option.some.inj hx
        exact ⟨target, fun q hq f hf hs => unique ((duplicates_iff _ _ _).2 ⟨q, hq, f, hf, hs⟩)⟩

/-- The increments of an ADD write leave an entry's source (R62). -/
theorem RowsLawful.ctAdd {b c : Bank} (h : RowsLawful b) {it : CtItem} {i : Nat} (hc : ctAdd it i b = some c) :
    RowsLawful c := by
  unfold Machine.ctAdd at hc
  simp only [] at hc
  obtain ⟨e, he, rfl⟩ := Option.map_eq_some_iff.1 hc
  obtain ⟨target, distinct⟩ := (lawfulRow_iff _ _).1 (h (Fin.ofNat 64 (i / 8)))
  refine h.setPosition _ _ fun x hx => ?_
  obtain rfl := Option.some.inj hx
  exact ⟨target _ e he, fun q hq f hf => distinct q _ hq f hf e he⟩

theorem RowsLawful.of_rows {b c : Bank} (h : RowsLawful b) (hc : c.rows = b.rows) : RowsLawful c := by
  unfold RowsLawful
  rwa [hc]

theorem RowsLawful.kernelEdit {b c : Bank} (h : RowsLawful b) {combine : Word → Word → Word} {p : Vector Byte 8} {i : Nat}
    (hc : kernelEdit combine p i b = some c) : RowsLawful c := by
  obtain rfl := Option.some.inj hc
  exact h.of_rows rfl

theorem RowsLawful.templateEdit {b c : Bank} (h : RowsLawful b) {combine : Word → Word → Word} {p : Vector Byte 8} {i : Nat}
    (hc : templateEdit combine p i b = some c) : RowsLawful c := by
  obtain rfl := Option.some.inj hc
  exact h.of_rows rfl

theorem RowsLawful.copyItemsFrom {b c : Bank} (hb : RowsLawful b) (hc : RowsLawful c) (n : Nat) :
    RowsLawful (copyItemsFrom b c n) := by
  intro t
  simp only [Machine.copyItemsFrom, Fin.getElem_fin, Vector.getElem_ofFn]
  split
  · exact hb t
  · exact hc t

/-! The banks by role -/

/-- Both banks of a unit obey R54. -/
structure UnitRowsLawful (u : BankUnit) : Prop where
  bankA : RowsLawful u.bankA
  bankB : RowsLawful u.bankB

theorem UnitRowsLawful.bankOf {u : BankUnit} (h : UnitRowsLawful u) (i : BankId) : RowsLawful (bankOf u i) := by
  cases i
  · exact h.bankA
  · exact h.bankB

theorem UnitRowsLawful.setStandby {u : BankUnit} (h : UnitRowsLawful u) {b : Bank} (hb : RowsLawful b) :
    UnitRowsLawful (setStandby u b) :=
  have ⟨a, b⟩ := setStandby_banks RowsLawful u b h.bankA h.bankB hb
  ⟨a, b⟩

theorem unitRowsLawful_initial : UnitRowsLawful BankUnit.initial := ⟨rowsLawful_cleared, rowsLawful_cleared⟩

end Sys2Proof.Machine
end

section
/-! PROOFS. Every step keeps the rows, the Bank Engine and the profile lawful (R54, R132, R133, R176, R178). -/

namespace Sys2Proof.Machine

/-! The Profile Store -/

/-- A Profile Store whose stored rows obey R54 and that is GOOD only with its CRC (R176). -/
structure StoreSound (p : ProfileStore) : Prop where
  image : ∀ im, p.image = some im → RowsLawful im.bank
  good : p.condition = .good → ∃ im, p.image = some im ∧ crc32 (profileBytes im) = p.crc

/-- A store that is not GOOD needs no CRC. -/
theorem StoreSound.of_not_good {p q : ProfileStore} (h : StoreSound p) (hi : q.image = p.image) (hc : q.condition ≠ .good) :
    StoreSound q where
  image im hq := h.image im (hi.symm.trans hq)
  good hq := absurd hq hc

/-- The `found` flag and a run in progress say nothing of what is stored. -/
theorem StoreSound.congr {p q : ProfileStore} (h : StoreSound p) (hc : q.condition = p.condition) (hi : q.image = p.image)
    (hx : q.crc = p.crc) : StoreSound q where
  image im hq := h.image im (hi.symm.trans hq)
  good hq := by rw [hi, hx]; exact h.good (hc.symm.trans hq)

theorem StoreSound.endPersist {p : ProfileStore} (h : StoreSound p) : StoreSound (endPersist p) := by
  rw [endPersist_eq]
  split
  · exact h.of_not_good rfl (by simp)
  · exact h

theorem StoreSound.goodImage {p : ProfileStore} (h : StoreSound p) {im : ProfileImage} (hg : goodImage p = some im) :
    RowsLawful im.bank := h.image im (goodImage_eq_some.1 hg).2.1

/-! The part -/

/-- Rows, Bank Engine and profile are lawful. -/
def StorageLawful (s : State) : Prop := BanksLawful s ∧ EngineLawful s ∧ ProfileLawful s

namespace StorageLawful

variable {s t : State}

theorem rows (h : StorageLawful s) : UnitRowsLawful s.banks := ⟨h.1.1, h.1.2.1⟩

theorem engine (h : StorageLawful s) : EngineLawful s := h.2.1

theorem store (h : StorageLawful s) : StoreSound s.profile := ⟨h.1.2.2, h.2.2.1⟩

theorem running (h : StorageLawful s) {p : PersistRun} (hp : s.profile.running = some p) :
    s.profile.condition = .torn ∧ p.count < Config.persistLimit ∧ s.banks.operation ≠ some .commit := h.2.2.2 p hp

theorem of_parts (rows : UnitRowsLawful s.banks) (engine : EngineLawful s) (store : StoreSound s.profile)
    (running : ∀ p, s.profile.running = some p →
      s.profile.condition = .torn ∧ p.count < Config.persistLimit ∧ s.banks.operation ≠ some .commit) :
    StorageLawful s :=
  ⟨⟨rows.bankA, rows.bankB, store.image⟩, engine, store.good, running⟩

theorem congr (h : StorageLawful s) (hb : t.banks = s.banks) (hp : t.profile = s.profile) : StorageLawful t := by
  unfold StorageLawful BanksLawful EngineLawful ProfileLawful at *
  rwa [hb, hp]

/-- A change of the banks that begins no commit beside a PERSIST. -/
theorem withBanks (h : StorageLawful s) (hp : t.profile = s.profile) (rows : UnitRowsLawful t.banks)
    (engine : EngineLawful t)
    (commit : t.banks.operation = some .commit → s.banks.operation = some .commit ∨ s.profile.running = none) :
    StorageLawful t := by
  refine of_parts rows engine (hp ▸ h.store) fun p hr => ?_
  rw [hp] at hr ⊢
  obtain ⟨torn, count, other⟩ := h.running hr
  refine ⟨torn, count, fun hc => ?_⟩
  rcases commit hc with hc | hn
  · exact other hc
  · simp [hr] at hn

/-- No PERSIST runs. -/
theorem of_no_persist (rows : UnitRowsLawful t.banks) (engine : EngineLawful t) (store : StoreSound t.profile)
    (hn : t.profile.running = none) : StorageLawful t :=
  of_parts rows engine store fun p hp => by simp [hn] at hp

end StorageLawful

/-! The Bank Engine's states (R132) -/

theorem engineLawful_idle {s : State} (he : s.banks.engine = .idle) (hp : s.banks.progress = 0)
    (ho : s.banks.operation = none) : EngineLawful s := by simp [EngineLawful, he, hp, ho]

theorem EngineLawful.of_idle {s : State} (h : EngineLawful s) (he : s.banks.engine = .idle) :
    s.banks.progress = 0 ∧ s.banks.operation = none := by
  simpa only [EngineLawful, he] using h

theorem EngineLawful.of_validating {s : State} (h : EngineLawful s) (he : s.banks.engine = .validating) :
    s.banks.progress % 4 = 0 ∧ s.banks.progress ≤ 60 ∧ s.banks.operation = some .commit ∧
      s.banks.standbyCondition = .clean := by
  simpa only [EngineLawful, he] using h

theorem EngineLawful.of_swapPending {s : State} (h : EngineLawful s) (he : s.banks.engine = .swapPending) :
    s.banks.progress = 0 ∧ s.banks.operation = some .commit ∧ s.banks.standbyCondition = .clean := by
  simpa only [EngineLawful, he] using h

theorem EngineLawful.of_resync {s : State} (h : EngineLawful s) (he : s.banks.engine = .resync) :
    s.banks.progress % 8 = 0 ∧ s.banks.progress ≤ 192 ∧ s.banks.operation.isSome = true := by
  simpa only [EngineLawful, he] using h

/-! Commands -/

/-- Another bank in the standby role, under whatever condition, while the Bank Engine is IDLE. -/
theorem StorageLawful.setStandby {s t : State} (h : StorageLawful s) (he : s.banks.engine = .idle) {b : Bank}
    (hb : RowsLawful b) (c : StandbyCondition) (ht : t.banks = { setStandby s.banks b with standbyCondition := c })
    (hp : t.profile = s.profile) : StorageLawful t := by
  obtain ⟨-, -, -, hengine, hprogress, hoperation, -⟩ := setStandby_rest s.banks b
  obtain ⟨progress, operation⟩ := h.engine.of_idle he
  have rows := h.rows.setStandby hb
  refine h.withBanks hp ⟨?_, ?_⟩ (engineLawful_idle ?_ ?_ ?_) fun hc => .inl ?_ <;> simp only [ht] at *
  · exact rows.bankA
  · exact rows.bankB
  · exact hengine.trans he
  · exact hprogress.trans progress
  · exact hoperation.trans operation
  · exact hoperation.symm.trans hc

/-- A write to a standby table whose item keeps the rows lawful (R60). -/
theorem standbyWrite_storageLawful {r : Request} {x : Table} {edit : Nat → Bank → Option Bank}
    (hedit : ∀ i b c, RowsLawful b → edit i b = some c → RowsLawful c) {s : State} (h : StorageLawful s) :
    StorageLawful (standbyWrite r x edit s).1 := by
  unfold standbyWrite
  split
  · exact h
  · split
    · exact h
    · next he =>
      split
      · exact h
      · next b hb =>
        exact h.setStandby (Decidable.not_not.1 he) (hedit _ _ _ (h.rows.bankOf _) hb)
          (setStandby s.banks b).standbyCondition rfl rfl

theorem decideData_storageLawful (r : Request) {s : State} (h : StorageLawful s) : StorageLawful (decideData r s).1 := by
  unfold decideData
  simp only []
  split
  · split
    · split
      · exact standbyWrite_storageLawful (fun _ _ _ hb hc => hb.ctAdd hc) h
      · exact standbyWrite_storageLawful (fun _ _ _ hb hc => hb.ctReplace hc) h
    · split <;> exact standbyWrite_storageLawful (fun _ _ _ hb hc => hb.kernelEdit hc) h
    · exact standbyWrite_storageLawful (fun _ _ _ hb hc => hb.templateEdit hc) h
    · exact h.congr (writeSlotmap_banks r s) (writeSlotmap_profile r s)
    · exact h.congr (writeTargets_banks r s) (writeTargets_profile r s)
    · exact h.congr (writeMutes_banks r s) (writeMutes_profile r s)
    · exact h.congr (writeLimits_banks r s) (writeLimits_profile r s)
    · exact h.congr (writeAlertmap_banks r s) (writeAlertmap_profile r s)
    all_goals exact h
  · exact h

/-- A COMMIT begins only while no PERSIST runs and the standby bank is CLEAN (R133). -/
theorem decideCommit_storageLawful (r : Request) {s : State} (h : StorageLawful s) : StorageLawful (decideCommit r s).1 := by
  unfold decideCommit
  split
  · exact h
  · split
    · exact h
    · split
      · exact h
      · next hr =>
        split
        · exact h
        · next hc =>
          have clean : s.banks.standbyCondition = .clean := by
            cases hs : s.banks.standbyCondition with
            | clean => rfl
            | torn => exact absurd hs hc
          exact h.withBanks rfl ⟨h.rows.bankA, h.rows.bankB⟩ (by simp [EngineLawful, clean]) fun _ => .inr (by simpa using hr)

theorem decideResync_storageLawful (r : Request) {s : State} (h : StorageLawful s) : StorageLawful (decideResync r s).1 := by
  unfold decideResync
  split
  · exact h
  · split
    · exact h
    · exact h.withBanks rfl ⟨h.rows.bankA, h.rows.bankB⟩ (by simp [EngineLawful]) fun hc => by simp at hc

theorem decideClearStandby_storageLawful (r : Request) {s : State} (h : StorageLawful s) :
    StorageLawful (decideClearStandby r s).1 := by
  unfold decideClearStandby
  split
  · exact h
  · split
    · exact h
    · next he => exact h.setStandby (Decidable.not_not.1 he) rowsLawful_cleared .clean rfl rfl

/-- A PERSIST begins only in IDLE, where no commit runs (R155). -/
theorem decidePersist_storageLawful (r : Request) {s : State} (h : StorageLawful s) : StorageLawful (decidePersist r s).1 := by
  unfold decidePersist
  split
  · exact h
  · split
    · exact h
    · next he =>
      have idle : s.banks.engine = .idle := Decidable.not_not.1 (not_or.1 he).1
      refine .of_parts h.rows h.engine ⟨by simp, by simp⟩ fun p hp => ?_
      obtain rfl := Option.some.inj hp
      exact ⟨rfl, show 0 < Config.persistLimit by decide, by simp [(h.engine.of_idle idle).2]⟩

theorem decideCommand_storageLawful (code : Byte) (r : Request) {s : State} (h : StorageLawful s) :
    StorageLawful (decideCommand code r s).1 := by
  have keeps : ∀ {t : State}, t.banks = s.banks → t.profile = s.profile → StorageLawful t := h.congr
  exact decideCommand_preserves StorageLawful code r s (keeps (by simp) (by simp)) (keeps (by simp) (by simp))
    (keeps (by simp) (by simp)) (keeps (by simp) (by simp)) (decideData_storageLawful r h) (keeps (by simp) (by simp))
    (decideCommit_storageLawful r h) (decideResync_storageLawful r h) (decideClearStandby_storageLawful r h)
    (keeps (by simp) (by simp)) (keeps (by simp) (by simp)) (decidePersist_storageLawful r h) (keeps (by simp) (by simp)) h

/-! The frame boundary -/

/-- A validation checks rows in fours and ends at 64 (R135, R138). -/
theorem validationStep_storageLawful {s : State} (h : StorageLawful s) (he : s.banks.engine = .validating) :
    StorageLawful (validationStep s) := by
  obtain ⟨fours, low, commit, clean⟩ := h.engine.of_validating he
  unfold validationStep
  simp only []
  split
  · exact h.withBanks rfl ⟨h.rows.bankA, h.rows.bankB⟩ (engineLawful_idle rfl rfl rfl) fun hc => by simp at hc
  · split
    · exact h.withBanks rfl ⟨h.rows.bankA, h.rows.bankB⟩ (by simp [EngineLawful, commit, clean]) .inl
    · next hlast =>
      refine h.withBanks rfl ⟨h.rows.bankA, h.rows.bankB⟩ ?_ .inl
      simp only [EngineLawful, State.banks_setBanks, he, Config.rowsPerStep, commit, clean, and_true] at hlast ⊢
      omega

theorem swapBanks_storageLawful {s : State} (h : StorageLawful s) (he : s.banks.engine = .swapPending) :
    StorageLawful (swapBanks s) := by
  obtain ⟨-, commit, -⟩ := h.engine.of_swapPending he
  exact h.withBanks rfl ⟨h.rows.bankA, h.rows.bankB⟩ (by simp [EngineLawful, swapBanks, commit]) .inl

/-- The copy takes items in eights and ends behind item 199 (R142, R143). -/
theorem copyStep_storageLawful {s : State} (h : StorageLawful s) (he : s.banks.engine = .resync) :
    StorageLawful (copyStep s) := by
  obtain ⟨eights, low, some⟩ := h.engine.of_resync he
  have rows : UnitRowsLawful (setStandby s.banks (copyItemsFrom (liveBank s.banks) (standbyBank s.banks) s.banks.progress)) :=
    h.rows.setStandby ((h.rows.bankOf _).copyItemsFrom (h.rows.bankOf _) _)
  obtain ⟨-, -, -, hengine, -, hoperation, -⟩ :=
    setStandby_rest s.banks (copyItemsFrom (liveBank s.banks) (standbyBank s.banks) s.banks.progress)
  unfold copyStep
  simp only []
  split
  · exact h.withBanks rfl ⟨rows.bankA, rows.bankB⟩ (engineLawful_idle rfl rfl rfl) fun hc => by simp [endCopy] at hc
  · next hlast =>
    refine h.withBanks rfl ⟨rows.bankA, rows.bankB⟩ ?_ fun hc => .inl (hoperation.symm.trans hc)
    simp only [EngineLawful, State.banks_setBanks, hengine, hoperation, he, some, and_true, Config.copyItems,
      Config.itemsPerStep] at hlast ⊢
    omega

theorem engineBoundary_storageLawful {s : State} (h : StorageLawful s) : StorageLawful (engineBoundary s) := by
  unfold engineBoundary
  split
  · exact h
  · next he => exact validationStep_storageLawful h he
  · next he => exact swapBanks_storageLawful h he
  · next he => exact copyStep_storageLawful h he

theorem persistBoundary_storageLawful {s : State} (h : StorageLawful s) : StorageLawful (persistBoundary s) := by
  unfold persistBoundary
  split
  · exact h
  · next p hp =>
    obtain ⟨torn, -, other⟩ := h.running hp
    split
    · exact .of_no_persist h.rows h.engine (h.store.of_not_good rfl (by simp)) rfl
    · next hlast =>
      refine .of_parts h.rows h.engine (h.store.congr rfl rfl rfl) fun x hx => ?_
      obtain rfl := Option.some.inj hx
      exact ⟨torn, Nat.lt_of_not_le hlast, other⟩

/-- Of the reactions to a boundary only those of the Bank Engine and the Profile Store change what is stored. -/
theorem frameBoundary_storageLawful (f : Frame) {s : State} (h : StorageLawful s) : StorageLawful (frameBoundary f s) := by
  have engine : StorageLawful (engineBoundary (boundaryIntake f s)) :=
    engineBoundary_storageLawful (h.congr (boundaryIntake_banks f s) (boundaryIntake_profile f s))
  unfold frameBoundary
  exact persistBoundary_storageLawful (engine.congr (by simp) (by simp))

/-! Power and resets -/

theorem coldStart_storageLawful (u : StartUp) {s : State} (h : StoreSound s.profile) : StorageLawful (coldStart u s) := by
  have stored := h.endPersist
  cases hg : goodImage (endPersist s.profile) with
  | some im =>
    rw [coldStart_of_good hg]
    exact .of_no_persist ⟨stored.goodImage hg, stored.goodImage hg⟩ (engineLawful_idle rfl rfl rfl)
      (stored.congr rfl rfl rfl) (endPersist_running s.profile)
  | none =>
    rw [coldStart_of_none hg]
    refine .of_no_persist unitRowsLawful_initial (engineLawful_idle rfl rfl rfl) (stored.of_not_good rfl ?_)
      (endPersist_running s.profile)
    rw [checkedCondition_of_none hg]
    split <;> simp

theorem warmActions_storageLawful (k : ResetReason) (c : PortCondition) {s : State} (h : StorageLawful s) :
    StorageLawful (warmActions k c s) :=
  .of_no_persist ⟨h.rows.bankA, h.rows.bankB⟩ (engineLawful_idle rfl rfl rfl) h.store.endPersist
    (endPersist_running s.profile)

theorem unpower_storageLawful {s : State} (h : StoreSound s.profile) : StorageLawful (unpower s) :=
  .of_no_persist unitRowsLawful_initial (engineLawful_idle rfl rfl rfl) (h.endPersist.congr rfl rfl rfl)
    (endPersist_running s.profile)

/-- What is stored changes by commands, resets and frame boundaries alone. -/
theorem storageLawful_loopInvariant : LoopInvariant StorageLawful where
  setPorts _ h := h.congr rfl rfl
  setIntake _ h := h.congr rfl rfl
  setCoupling _ h := h.congr rfl rfl
  setPool _ h := h.congr rfl rfl
  setMgmt _ h := h.congr rfl rfl
  setAlerts _ h := h.congr rfl rfl
  setCounters _ h := h.congr rfl rfl
  setCapture _ h := h.congr rfl rfl
  decide code r h := decideCommand_storageLawful code r h
  cold u h := coldStart_storageLawful u h.store
  warm k c h := warmActions_storageLawful k c h
  boundary f h := frameBoundary_storageLawful f h

theorem rstNFall_storageLawful {s t : State} (hs : StorageLawful s) (h : exec .rstNFall s = .next t) : StorageLawful t := by
  simp only [exec, execRstNFall] at h
  split at h <;> cases h
  · have ended := storageLawful_loopInvariant.endPassage hs
    exact .of_no_persist ⟨ended.rows.bankA, ended.rows.bankB⟩ (engineLawful_idle rfl rfl rfl) ended.store.endPersist
      (endPersist_running _)
  · exact hs

theorem rstNRise_storageLawful {x : Straps} {s t : State} (hs : StorageLawful s) (h : exec (.rstNRise x) s = .next t) :
    StorageLawful t := by
  simp only [exec, execRstNRise] at h
  split at h
  · cases h; exact hs
  · split at h <;> cases h
    · exact hs.congr rfl rfl
    · exact coldStart_storageLawful _ hs.store
    · exact warmActions_storageLawful _ _ (hs.congr rfl rfl)
    · exact warmActions_storageLawful _ _ (hs.congr rfl rfl)

theorem powerUp_storageLawful {x : Straps} {high : Bool} {s t : State} (hs : StorageLawful s)
    (h : exec (.powerUp x high) s = .next t) : StorageLawful t := by
  have off := unpower_storageLawful hs.store
  simp only [exec, execPowerUp] at h
  split at h <;> cases h
  · exact coldStart_storageLawful _ off.store
  · exact off.congr rfl rfl

/-! Ends of spans and of self-timed work -/

/-- What a PERSIST stores is the live bank with its CRC, or nothing that is GOOD (R177). -/
theorem persistEnd_storageLawful {o : ReadBack} {s t : State} (hs : StorageLawful s) (h : exec (.persistEnd o) s = .next t) :
    StorageLawful t := by
  simp only [exec, execPersistEnd] at h
  split at h <;> cases h
  · next p _ =>
    unfold finishPersist
    split
    · refine .of_no_persist hs.rows hs.engine ⟨fun im hi => ?_, fun _ => ⟨_, rfl, rfl⟩⟩ rfl
      obtain rfl := Option.some.inj hi
      exact hs.rows.bankOf _
    · exact .of_no_persist hs.rows hs.engine (hs.store.of_not_good rfl (by simp)) rfl
  · exact hs

theorem bankSwap_storageLawful {s t : State} (hs : StorageLawful s) (h : exec .bankSwap s = .next t) : StorageLawful t := by
  cases h
  split
  · next hl =>
    have pending : s.banks.engine = .swapPending := by simpa using (Bool.and_eq_true_iff.1 hl).2
    exact swapBanks_storageLawful (hs.congr (overrunPass_banks s) (overrunPass_profile s)) (by rwa [overrunPass_banks])
  · exact hs

theorem resyncCopyEnd_storageLawful {s t : State} (hs : StorageLawful s) (h : exec .resyncCopyEnd s = .next t) :
    StorageLawful t := by
  cases h
  split
  · next hl =>
    have copying : s.banks.engine = .resync := by
      simpa using (Bool.and_eq_true_iff.1 (Bool.and_eq_true_iff.1 hl).1).2
    exact copyStep_storageLawful hs copying
  · exact hs

theorem event_storageLawful (i : Instr) (hi : IsEvent i) (s t : State) (hs : StorageLawful s) (h : exec i s = .next t) :
    StorageLawful t := by
  have loop := storageLawful_loopInvariant
  cases hi with
  | outboundFrame f b m => exact loop.outboundFrame hs h
  | returnFrame f p => exact loop.returnFrame hs h
  | lineIdle => exact loop.lineIdle hs h
  | lockLoss => exact loop.lockLoss hs h
  | settleEnd u =>
    cases h
    split <;> exact hs.congr rfl rfl
  | targetCompletion =>
    simp only [exec, execTargetCompletion] at h
    split at h <;> rw [Host.Outcome.next.injEq] at h <;> subst h
    · exact hs.congr (completeTarget_banks _ s) (completeTarget_profile _ s)
    · exact hs
  | shockExit =>
    cases h
    split
    · exact hs.congr (exitShock_banks s) (exitShock_profile s)
    · exact hs
  | lockExpiry d =>
    cases h
    split <;> exact hs.congr rfl rfl
  | bankSwap => exact bankSwap_storageLawful hs h
  | resyncCopyEnd => exact resyncCopyEnd_storageLawful hs h
  | captureComplete =>
    cases h
    split
    · exact hs.congr (completeItems_banks s) (completeItems_profile s)
    · exact hs
  | persistEnd o => exact persistEnd_storageLawful hs h
  | persistTimeLimit =>
    cases h
    split
    · exact persistBoundary_storageLawful hs
    · exact hs
  | resetFull r => cases h; exact loop.takeReset _ r hs
  | resetWarm r => cases h; exact loop.takeReset _ r hs
  | powerUp x high => exact powerUp_storageLawful hs h
  | profileLoadEnd =>
    simp only [exec, execProfileLoadEnd] at h
    split at h <;> cases h <;> exact hs.congr rfl rfl
  | rstNFall => exact rstNFall_storageLawful hs h
  | rstNRise x => exact rstNRise_storageLawful hs h
  | outboundCellArrival => exact loop.outboundCellArrival hs h
  | lossOfPower => cases h; exact unpower_storageLawful hs.store

/-- Settles O55: every command and every event keeps rows, Bank Engine and profile lawful. -/
theorem banksStayLawful : Obligations.BanksStayLawful := fun s t hb he hp h =>
  step_preserves StorageLawful (fun _ _ hs => hs.congr rfl rfl) (fun s hs => hs.congr (passTick_banks s) (passTick_profile s))
    (fun sent decided r _ hs => storageLawful_loopInvariant.takeCommand sent decided r hs) event_storageLawful s t
    ⟨hb, he, hp⟩ h

end Sys2Proof.Machine
end

section
/-! PROOFS. COMMIT, RESYNC and CLEAR_STANDBY (R133, R144, R69). -/

namespace Sys2Proof.Machine

/-- A taken command leaves the state and answers the reply of its decision. -/
theorem answered_of_decision {i : Instr} {code : Byte} {r : Request} {d : State → State × Reply} {s u v : State} {a : Reply}
    (ht : Taken r s u) (hx : exec i s = .next (takeCommand code r d s)) (hd : d u = (v, a)) : Answered i code r a s v := by
  have answered := answered_of_taken ht hx
  rwa [hd] at answered

/-- The renewal of the leases gives no domain to who does not hold it. -/
theorem Taken.not_holds {r : Request} {s u : State} (ht : Taken r s u) {d : Domain} (h : ¬ Holds r d s) :
    Machine.holds r d u = false := by
  obtain ⟨-, -, rfl⟩ := ht
  rw [holds_renewLeases]
  exact holds_false h

theorem Taken.profile {r : Request} {s u : State} (ht : Taken r s u) : u.profile = s.profile := by
  obtain ⟨-, -, rfl⟩ := ht
  rfl

/-- CLEAR_STANDBY leaves no entry, no tap, no defined kernel and no template sample (R69). -/
theorem cleared_bank :
    (∀ (t : Slot) (p : Fin 8), Bank.cleared.rows[t][p] = none) ∧
    (∀ k : Fin 128, Bank.cleared.kernels[k].defined = false ∧ ∀ i : Fin 16, Bank.cleared.kernels[k].taps[i] = 0) ∧
    ∀ (k : Fin 8) (j : Fin 32), Bank.cleared.templates[k][j] = 0 := by
  simp [Bank.cleared, Kernel.cleared]

section
variable {r : Request} {u : State}

/-! The decisions, check by check -/

theorem decideCommit_of_not_holder (hh : holds r .standby u = false) : decideCommit r u = unchanged .notHolder u := by
  simp [decideCommit, hh]

theorem decideCommit_of_engine (hh : holds r .standby u = true) (he : u.banks.engine ≠ .idle) :
    decideCommit r u = unchanged .busy u := by
  simp [decideCommit, hh, he]

theorem decideCommit_of_persist (hh : holds r .standby u = true) (he : u.banks.engine = .idle)
    (hp : u.profile.running.isSome = true) : decideCommit r u = unchanged .busy u := by
  simp [decideCommit, hh, he, hp]

theorem decideCommit_of_torn (hh : holds r .standby u = true) (he : u.banks.engine = .idle)
    (hp : u.profile.running = none) (hc : u.banks.standbyCondition = .torn) :
    decideCommit r u = unchanged .torn u := by
  simp [decideCommit, hh, he, hp, hc]

theorem decideCommit_accepted (hh : holds r .standby u = true) (he : u.banks.engine = .idle)
    (hp : u.profile.running = none) (hc : u.banks.standbyCondition = .clean) :
    decideCommit r u =
      (u.setBanks { u.banks with engine := .validating, progress := 0, operation := some .commit, rejection := none },
        plainReply .accepted) := by
  simp [decideCommit, hh, he, hp, hc]

theorem decideResync_of_not_holder (hh : holds r .standby u = false) : decideResync r u = unchanged .notHolder u := by
  simp [decideResync, hh]

theorem decideResync_of_engine (hh : holds r .standby u = true) (he : u.banks.engine ≠ .idle) :
    decideResync r u = unchanged .busy u := by
  simp [decideResync, hh, he]

theorem decideResync_accepted (hh : holds r .standby u = true) (he : u.banks.engine = .idle) :
    decideResync r u =
      (u.setBanks { u.banks with engine := .resync, progress := 0, operation := some .resync }, plainReply .accepted) := by
  simp [decideResync, hh, he]

theorem decideClearStandby_of_not_holder (hh : holds r .standby u = false) :
    decideClearStandby r u = unchanged .notHolder u := by
  simp [decideClearStandby, hh]

theorem decideClearStandby_of_engine (hh : holds r .standby u = true) (he : u.banks.engine ≠ .idle) :
    decideClearStandby r u = unchanged .busy u := by
  simp [decideClearStandby, hh, he]

theorem decideClearStandby_accepted (hh : holds r .standby u = true) (he : u.banks.engine = .idle) :
    decideClearStandby r u =
      (u.setBanks { setStandby u.banks Bank.cleared with standbyCondition := .clean }, plainReply .ok) := by
  simp [decideClearStandby, hh, he]

end

/-- Settles O37: the checks of each command in their order, and what it does behind them. -/
theorem bankCommandsAreDecided : Obligations.BankCommandsAreDecided := by
  refine ⟨fun r s u ht => ?_, fun r s u ht => ?_, fun r s u ht => ?_⟩
  · rw [← ht.banks, ← ht.profile]
    exact ⟨fun hh => answered_of_decision ht rfl (decideCommit_of_not_holder (ht.not_holds hh)),
      fun hh he => answered_of_decision ht rfl (decideCommit_of_engine (ht.holds hh) he),
      fun hh he hp => answered_of_decision ht rfl (decideCommit_of_persist (ht.holds hh) he hp),
      fun hh he hp hc => answered_of_decision ht rfl (decideCommit_of_torn (ht.holds hh) he hp hc),
      fun hh he hp hc => answered_of_decision ht rfl (decideCommit_accepted (ht.holds hh) he hp hc)⟩
  · rw [← ht.banks]
    exact ⟨fun hh => answered_of_decision ht rfl (decideResync_of_not_holder (ht.not_holds hh)),
      fun hh he => answered_of_decision ht rfl (decideResync_of_engine (ht.holds hh) he),
      fun hh he => answered_of_decision ht rfl (decideResync_accepted (ht.holds hh) he)⟩
  · rw [← ht.banks]
    obtain ⟨entries, kernels, templates⟩ := cleared_bank
    exact ⟨fun hh => answered_of_decision ht rfl (decideClearStandby_of_not_holder (ht.not_holds hh)),
      fun hh he => answered_of_decision ht rfl (decideClearStandby_of_engine (ht.holds hh) he),
      fun hh he => ⟨Bank.cleared, entries, kernels, templates,
        answered_of_decision ht rfl (decideClearStandby_accepted (ht.holds hh) he)⟩⟩

end Sys2Proof.Machine
end

section
/-! SUPPORT. The completion of the items in progress, in the words of the statements (R171, R173). -/

namespace Sys2Proof.Machine

/-- A completed item keeps the status of the table of R171, row by row. -/
theorem keepsStatus_itemStatus (s : State) (m : Word) (t : Slot) : KeepsStatus s m t (itemStatus s m t) := by
  unfold itemStatus
  split
  · next settling => exact .inl ⟨settling, rfl⟩
  · next settled =>
    split
    · next out => exact .inr (.inl ⟨settled, by simpa using out, rfl⟩)
    · next member =>
      replace member : s.slots.targets.getLsbD t = true := by simpa using member
      split
      · next muted => exact .inr (.inr (.inl ⟨settled, member, muted, rfl⟩))
      · next audible =>
        refine .inr (.inr (.inr ?_))
        split
        · next off => exact .inl ⟨settled, member, audible, off, rfl⟩
        · next hold => exact .inr (.inl ⟨settled, member, audible, hold, rfl⟩)
        · next freeze => exact .inr (.inr (.inl ⟨settled, member, audible, freeze, rfl⟩))
        · next run =>
          split
          · next fresh => exact .inr (.inr (.inr (.inl ⟨settled, member, audible, run, fresh, rfl⟩)))
          · next held => exact .inr (.inr (.inr (.inr ⟨settled, member, audible, run, held, rfl⟩)))

theorem isRow_completedRow (s : State) (b : BegunRow) : IsRow (completedRow s b) b.frame (fun c => b.entries[c]) s := by
  refine ⟨rfl, fun c => ⟨fun hc => ?_, fun t hc => ⟨itemStatus s b.frame t, keepsStatus_itemStatus s b.frame t, ?_⟩⟩⟩ <;>
    simp only [completedRow, Fin.getElem_fin, Vector.getElem_ofFn] at hc ⊢ <;> rw [hc] <;> rfl

theorem completeItems_of_none {s : State} (h : s.capture.begun = none) : completeItems s = s := by
  simp only [completeItems, h]

/-- The items in progress join the recording, and the last of a filling raises CAPTURE_DONE. -/
theorem completeItems_of_begun {s : State} {b : BegunRow} (h : s.capture.begun = some b) :
    completeItems s =
      { s with
        capture := recorded s.capture (completedRow s b)
        alerts :=
          if (recorded s.capture (completedRow s b)).state = .done ∧ s.capture.state = .filling then withPending 13 s.alerts
          else s.alerts } := by
  have rows : newest Config.captureLength (s.capture.rows ++ [completedRow s b]) =
      (s.capture.rows ++ [completedRow s b]).drop (s.capture.rows.length + 1 - 256) := by
    rw [newest, List.length_append]
    rfl
  by_cases hf : s.capture.state = .filling
  · simp only [completeItems, h, hf, recorded, rows]
    by_cases hl : s.capture.remaining - 1 = 0 <;> simp [hl, raiseIf, raiseAlert_eq] <;> rfl
  · simp only [completeItems, h, recorded, hf, and_false, if_false, rows]
    rfl

end Sys2Proof.Machine
end

section
/-! PROOFS. BANK_SWAP and RESYNC_COPY_END as steps of their own (R140, R143, log 4). -/

namespace Sys2Proof.Machine

/-! The swap -/

theorem exec_bankSwap_pending {s : State} (hl : OnLoop s) (he : s.banks.engine = .swapPending) :
    exec .bankSwap s = .next (swapBanks (overrunPass s)) := by
  simp [exec, execBankSwap, (onLoop_iff s).2 hl, he]

theorem overrunPass_of_none {s : State} (h : s.coupling.pass = none) : overrunPass s = s := by
  simp only [overrunPass, h]

/-- A pass that a boundary abandons: it is gone and counted, and its items in progress complete (R74, R94). -/
theorem overrunPass_of_some {s : State} {p : Pass} (h : s.coupling.pass = some p) :
    overrunPass s =
      completeItems { s with coupling := { s.coupling with pass := none }, counters := counted 4 1 s.counters } := by
  simp only [overrunPass, h]
  rfl

theorem overrunPass_of_not_begun {s : State} {p : Pass} (h : s.coupling.pass = some p) (hb : s.capture.begun = none) :
    overrunPass s = { s with coupling := { s.coupling with pass := none }, counters := counted 4 1 s.counters } := by
  rw [overrunPass_of_some h]
  exact completeItems_of_none hb

theorem overrunPass_of_begun {s : State} {p : Pass} {b : BegunRow} (h : s.coupling.pass = some p)
    (hb : s.capture.begun = some b) :
    overrunPass s =
      { s with
        coupling := { s.coupling with pass := none }
        counters := counted 4 1 s.counters
        capture := recorded s.capture (completedRow s b)
        alerts :=
          if (recorded s.capture (completedRow s b)).state = .done ∧ s.capture.state = .filling then withPending 13 s.alerts
          else s.alerts } := by
  rw [overrunPass_of_some h]
  exact completeItems_of_begun hb

/-- The swap changes the banks and the limit levels alone (R140, R123). -/
theorem swapBanks_eq (s : State) :
    swapBanks s =
      { s with
        banks :=
          { s.banks with
            liveId := otherBank s.banks.liveId, generation := s.banks.generation + 1, engine := .resync, progress := 0 }
        limit := swapLevels s.limit } := rfl

/-- The roles are exchanged: each bank is in the other's role. -/
theorem swapped_roles (u : BankUnit) :
    liveBank { u with liveId := otherBank u.liveId } = standbyBank u ∧
    standbyBank { u with liveId := otherBank u.liveId } = liveBank u := by
  cases h : u.liveId <;> simp [liveBank, standbyBank, otherBank, bankOf, h]

/-! The end of the copy -/

theorem exec_resyncCopyEnd_last {s : State} (hl : OnLoop s) (he : s.banks.engine = .resync) (hp : s.banks.progress = 192) :
    exec .resyncCopyEnd s = .next (copyStep s) := by
  simp [exec, execResyncCopyEnd, (onLoop_iff s).2 hl, he, hp]

theorem copyStep_last {s : State} (hp : s.banks.progress = 192) :
    copyStep s = endCopy (s.setBanks (setStandby s.banks (copyItemsFrom (liveBank s.banks) (standbyBank s.banks) 192))) := by
  simp [copyStep, hp, Config.copyItems, Config.itemsPerStep]

/-- The last copy items, 192 to 199, are the eight templates (R142). -/
theorem copyItemsFrom_templates (src dst : Bank) :
    (copyItemsFrom src dst 192).rows = dst.rows ∧ (copyItemsFrom src dst 192).kernels = dst.kernels ∧
    (copyItemsFrom src dst 192).templates = src.templates := by
  refine ⟨Vector.ext fun i hi => ?_, Vector.ext fun i hi => ?_, Vector.ext fun i hi => ?_⟩ <;>
    simp only [copyItemsFrom, Vector.getElem_ofFn, Config.itemsPerStep, Bool.and_eq_true, decide_eq_true_eq, Fin.getElem_fin]
  · rw [if_neg (by omega)]
  · rw [if_neg (by omega)]
  · rw [if_pos ⟨by omega, decide_eq_true (by omega)⟩]

/-- Settles O28: the swap, with and without a pass to abandon, and the last boundary of the copy. -/
theorem swapAndCopyEnd : Obligations.SwapAndCopyEnd := by
  refine ⟨fun s hl he => ⟨⟨fun hp => ?_, fun p hp => ?_⟩, swapped_roles s.banks⟩, fun s hl he hp => ?_⟩
  · rw [exec_bankSwap_pending hl he, overrunPass_of_none hp, swapBanks_eq]
    rfl
  · rw [exec_bankSwap_pending hl he]
    cases hb : s.capture.begun with
    | none =>
      rw [overrunPass_of_not_begun hp hb]
      refine ⟨s.capture, s.alerts, rfl, fun _ => rfl, fun b hn => by simp at hn, ?_⟩
      rw [if_neg]
      rintro ⟨done, filling⟩
      simp [done] at filling
    | some b =>
      rw [overrunPass_of_begun hp hb]
      refine ⟨_, _, rfl, fun hn => by simp at hn, fun c hc => ?_, rfl⟩
      obtain rfl := Option.some.inj hc
      exact ⟨completedRow s b, isRow_completedRow s b, rfl⟩
  · obtain ⟨rows, kernels, templates⟩ := copyItemsFrom_templates (liveBank s.banks) (standbyBank s.banks)
    refine ⟨copyItemsFrom (liveBank s.banks) (standbyBank s.banks) 192, rows, kernels, templates, ?_⟩
    rw [exec_resyncCopyEnd_last hl he hp, copyStep_last hp]
    rfl

end Sys2Proof.Machine
end

section
/-! SUPPORT. DATA as the Load Context decides it, for every row, and DATA on a standby table (R60, R152, log 5). -/

namespace Sys2Proof.Machine

/-- The rows of the table that are a DATA of request r. -/
def dataRows (r : Request) : List Instr :=
  [.dataStandbyCtReplace r, .dataStandbyCtAdd r, .dataStandbyKernelReplace r, .dataStandbyKernelAdd r,
    .dataStandbyTemplate r, .dataSlotmap r, .dataTargets r, .dataMutes r, .dataLimits r, .dataAlertmap r]

/-- Every DATA row is a taken cell that the Load Context decides. -/
theorem exec_dataRow {i : Instr} {r : Request} (hi : i ∈ dataRows r) (s : State) :
    exec i s = .next (takeCommand 5 r (decideData r) s) := by
  simp only [dataRows, List.mem_cons, List.not_mem_nil, or_false] at hi
  rcases hi with rfl | rfl | rfl | rfl | rfl | rfl | rfl | rfl | rfl | rfl
  · rw [exec, execDataStandbyCtReplace, ctReplaceRow_eq]
  · rw [exec, execDataStandbyCtAdd, ctAddRow_eq]
  · rw [exec, execDataStandbyKernelReplace, kernelReplaceRow_eq]
  · rw [exec, execDataStandbyKernelAdd, kernelAddRow_eq]
  · rw [exec, execDataStandbyTemplate, templateRow_eq]
  · rw [exec, execDataSlotmap, slotmapRow_eq]
  · rw [exec, execDataTargets, targetsRow_eq]
  · rw [exec, execDataMutes, mutesRow_eq]
  · rw [exec, execDataLimits, limitsRow_eq]
  · rw [exec, execDataAlertmap, alertmapRow_eq]

section
variable {r : Request} {u v : State} {t : Table} {n : Nat} {m : ContextMode}

/-! DATA by its context -/

theorem decideData_of_not_open (h : (contextOf r u).state ≠ .opened) : decideData r u = unchanged .range u := by
  cases hs : (contextOf r u).state with
  | opened => exact absurd hs h
  | unselected | exhausted => simp [decideData, hs]

theorem decideData_readOnly (hc : contextOf r u = { table := some t, index := n, mode := m, state := .opened })
    (ht : tableDomain t = none) : decideData r u = unchanged .badMode u := by
  cases t
  case standbyCt | standbyKernel | standbyTemplate | slotmap | targets | mutes | limits | alertmap => simp [tableDomain] at ht
  all_goals simp [decideData, hc]

/-- A context OPEN on STANDBY_CT decides by its mode (R61, R62). -/
theorem decideData_ct (hc : contextOf r u = { table := some .standbyCt, index := n, mode := m, state := .opened }) :
    decideData r u =
      standbyWrite r .standbyCt (if m = .add then ctAdd (ctItemOf r.payload) else ctReplace (ctItemOf r.payload)) u := by
  by_cases hm : m = .add <;> simp [decideData, hc, hm, writeCtAdd, writeCtReplace]

theorem combineBy_add : combineBy .add = addSaturated := by
  funext a b
  rw [combineBy, if_pos rfl]

theorem combineBy_of_not_add (h : m ≠ .add) : combineBy m = fun _ item => item := by
  funext a b
  rw [combineBy, if_neg h]

/-- A context OPEN on STANDBY_KERNEL combines words by its mode (R63, R64). -/
theorem decideData_kernel (hc : contextOf r u = { table := some .standbyKernel, index := n, mode := m, state := .opened }) :
    decideData r u = standbyWrite r .standbyKernel (kernelEdit (combineBy m) r.payload) u := by
  by_cases hm : m = .add
  · subst hm
    simp [decideData, hc, writeKernelAdd, combineBy_add]
  · simp [decideData, hc, hm, writeKernelReplace, combineBy_of_not_add hm]

/-- A context OPEN on STANDBY_TEMPLATE combines words by its mode (R65). -/
theorem decideData_template
    (hc : contextOf r u = { table := some .standbyTemplate, index := n, mode := m, state := .opened }) :
    decideData r u = standbyWrite r .standbyTemplate (templateEdit (combineBy m) r.payload) u := by
  simp [decideData, hc, writeTemplate]

/-- Under a context OPEN on a table of the STANDBY domain a DATA is a standby write of some edit. -/
theorem decideData_standby (hc : contextOf r u = { table := some t, index := n, mode := m, state := .opened })
    (ht : tableDomain t = some .standby) : ∃ edit, decideData r u = standbyWrite r t edit u := by
  cases t
  case standbyCt => exact ⟨_, decideData_ct hc⟩
  case standbyKernel => exact ⟨_, decideData_kernel hc⟩
  case standbyTemplate => exact ⟨_, decideData_template hc⟩
  all_goals simp [tableDomain] at ht

/-- Under a context OPEN on a table of the CONFIG domain a DATA is a configuration write of some edit. -/
theorem decideData_config (hc : contextOf r u = { table := some t, index := n, mode := m, state := .opened })
    (ht : tableDomain t = some .config) : ∃ edit, decideData r u = configWrite r t edit u := by
  cases t
  case slotmap | targets | mutes | limits | alertmap => exact ⟨_, by simp only [decideData, hc]; rfl⟩
  all_goals simp [tableDomain] at ht

/-! Standby and configuration writes, check by check (R60, R152) -/

theorem standbyWrite_of_not_holder {edit : Nat → Bank → Option Bank} (hh : holds r .standby u = false) :
    standbyWrite r t edit u = unchanged .notHolder u := by
  simp [standbyWrite, hh]

theorem standbyWrite_of_engine {edit : Nat → Bank → Option Bank} (hh : holds r .standby u = true)
    (he : u.banks.engine ≠ .idle) : standbyWrite r t edit u = unchanged .busy u := by
  simp [standbyWrite, hh, he]

theorem standbyWrite_refused {edit : Nat → Bank → Option Bank} (hh : holds r .standby u = true)
    (he : u.banks.engine = .idle) (hb : edit (contextOf r u).index (standbyBank u.banks) = none) :
    standbyWrite r t edit u = unchanged .badValue u := by
  simp [standbyWrite, hh, he, hb]

theorem standbyWrite_accepted {edit : Nat → Bank → Option Bank} {b : Bank} (hh : holds r .standby u = true)
    (he : u.banks.engine = .idle) (hb : edit (contextOf r u).index (standbyBank u.banks) = some b) :
    standbyWrite r t edit u = acceptWrite r t (u.setBanks (setStandby u.banks b)) := by
  simp [standbyWrite, hh, he, hb]

theorem configWrite_of_not_holder {edit : Nat → State → Option State} (hh : holds r .config u = false) :
    configWrite r t edit u = unchanged .notHolder u := by
  simp [configWrite, hh]

end

end Sys2Proof.Machine
end

section
/-! PROOFS. The refusals of DATA that come before the item, and the agreement of the DATA rows and of the READ rows (log 5). -/

namespace Sys2Proof.Machine

/-- Settles O42. -/
theorem dataIsRefusedInOrder : Obligations.DataIsRefusedInOrder := by
  refine ⟨fun r s => ⟨fun i hi => ?_, ?_⟩, fun r s u ht i hi => ⟨fun hc => ?_, fun t n m ho => ?_⟩⟩
  · have row : i ∈ dataRows r := by
      simp only [dataRows, List.mem_cons] at hi ⊢
      tauto
    have slotmap : Instr.dataSlotmap r ∈ dataRows r := by simp [dataRows]
    rw [exec_dataRow row, exec_dataRow slotmap]
  · have read : ∀ j ∈ [Instr.read r, .readCounters r, .readCapture r], exec j s = exec (.read r) s := fun j hj =>
      (exec_readRow hj s).trans (exec_readRow (by simp) s).symm
    exact ⟨read _ (by simp), read _ (by simp)⟩
  · exact answered_of_decision ht (exec_dataRow hi s) (decideData_of_not_open (ht.contextOf ▸ hc))
  · have hc := ht.openAt ho
    have decided : ∀ {a}, decideData r u = unchanged a u → Answered i 5 r (plainReply a) s u :=
      answered_of_decision ht (exec_dataRow hi s)
    refine ⟨fun hd => decided (decideData_readOnly hc hd), fun hd hh => ?_, fun hd hh he => ?_, fun hd hh => ?_⟩
    · obtain ⟨edit, hw⟩ := decideData_standby hc hd
      exact decided (hw.trans (standbyWrite_of_not_holder (ht.not_holds hh)))
    · obtain ⟨edit, hw⟩ := decideData_standby hc hd
      exact decided (hw.trans (standbyWrite_of_engine (ht.holds hh) (ht.banks ▸ he)))
    · obtain ⟨edit, hw⟩ := decideData_config hc hd
      exact decided (hw.trans (configWrite_of_not_holder (ht.not_holds hh)))

end Sys2Proof.Machine
end

section
/-! SUPPORT. Accepted and refused writes to the standby tables, and the saturated sum (R60, R62). -/

namespace Sys2Proof.Machine

/-- A sum saturated to 16 bits is the sum held within -32,768 to +32,767 (R62). -/
theorem toInt_addSaturated (a b : Word) : (addSaturated a b).toInt = max (-32768) (min 32767 (a.toInt + b.toInt)) := by
  unfold addSaturated saturate16
  generalize a.toInt + b.toInt = v
  split
  · next high =>
    rw [show (32767 : Word).toInt = 32767 by decide]
    omega
  · split
    · next low =>
      rw [show (-32768 : Word).toInt = -32768 by decide]
      omega
    · rw [BitVec.toInt_ofInt, Int.bmod_eq_of_le (by omega) (by omega)]
      omega

section
variable {i : Instr} {r : Request} {t : Table} {edit : Nat → Bank → Option Bank} {s u : State} {n : Nat} {m : ContextMode}

/-- With the lock held and the Bank Engine IDLE, a DATA row does the edit of the item its context names, and answers its index. -/
theorem acceptedData_of_standbyWrite (ht : Taken r s u) (hi : i ∈ dataRows r) (ho : OpenAt r s t n m)
    (hd : decideData r u = standbyWrite r t edit u) (hh : Holds r .standby s) (he : u.banks.engine = .idle) {b : Bank}
    (hb : edit n (standbyBank u.banks) = some b) :
    AcceptedData i r t s u { u with banks := setStandby u.banks b } := by
  have written : decideData r u = acceptWrite r t (u.setBanks (setStandby u.banks b)) :=
    hd.trans (standbyWrite_accepted (ht.holds hh) he (by rw [ht.openAt ho]; exact hb))
  exact answered_of_decision ht (exec_dataRow hi s) written

/-- Under the same checks a DATA row is BAD_VALUE when the edit refuses its item. -/
theorem refusedData_of_standbyWrite (ht : Taken r s u) (hi : i ∈ dataRows r) (ho : OpenAt r s t n m)
    (hd : decideData r u = standbyWrite r t edit u) (hh : Holds r .standby s) (he : u.banks.engine = .idle)
    (hb : edit n (standbyBank u.banks) = none) : Answered i 5 r (plainReply .badValue) s u :=
  answered_of_decision ht (exec_dataRow hi s)
    (hd.trans (standbyWrite_refused (ht.holds hh) he (by rw [ht.openAt ho]; exact hb)))

end

end Sys2Proof.Machine
end

section
/-! PROOFS. DATA on STANDBY_CT (R61, R62). -/

namespace Sys2Proof.Machine

/-! The item of a REPLACE write -/

/-- The fields of an item that name a slot, a kernel and a delay (R61). -/
def ItemInRange (it : CtItem) : Prop := it.source.toNat < 64 ∧ it.kernel.toNat < 128 ∧ it.delay.toNat < 16

theorem itemEntry_none {it : CtItem} (h : ¬ ItemInRange it) : itemEntry it = none := dif_neg h

theorem itemEntry_source {it : CtItem} (h : ItemInRange it) :
    ∃ e, itemEntry it = some e ∧ e.source.val = it.source.toNat := ⟨_, dif_pos h, rfl⟩

/-- An item with an entry's fields describes that entry. -/
theorem itemEntry_some {it : CtItem} {e : Entry} (hs : e.source.val = it.source.toNat) (hk : e.kernel.val = it.kernel.toNat)
    (hd : e.delay.val = it.delay.toNat) (hg : e.gain = it.gain)
    (hp : e.pulseGain = if it.pulsePresent then some it.pulseGain else none) : itemEntry it = some e := by
  obtain ⟨source, kernel, gain, delay, pulseGain⟩ := e
  have range : it.source.toNat < 64 ∧ it.kernel.toNat < 128 ∧ it.delay.toNat < 16 :=
    ⟨hs ▸ source.isLt, hk ▸ kernel.isLt, hd ▸ delay.isLt⟩
  rw [itemEntry, dif_pos range, Option.some.injEq, Entry.mk.injEq]
  exact ⟨Fin.ext hs.symm, Fin.ext hk.symm, hg.symm, Fin.ext hd.symm, hp.symm⟩

/-! Item 8t + p is position p of row t (R59) -/

theorem ct_row (t : Slot) (p : Fin 8) : Fin.ofNat 64 ((8 * t.val + p.val) / 8) = t := by
  ext
  simp only [Fin.ofNat]
  omega

theorem ct_position (t : Slot) (p : Fin 8) : Fin.ofNat 8 (8 * t.val + p.val) = p := by
  ext
  simp only [Fin.ofNat]
  omega

section
variable {it : CtItem} {t : Slot} {p : Fin 8} {b : Bank}

theorem ctReplace_absent (h : it.present = false) : ctReplace it (8 * t.val + p.val) b = some (setPosition b t p none) := by
  rw [ctReplace, h, Bool.not_false, if_pos rfl, ct_row, ct_position]

theorem ctReplace_out_of_range (h : it.present = true) (hr : ¬ ItemInRange it) :
    ctReplace it (8 * t.val + p.val) b = none := by
  simp [ctReplace, h, itemEntry_none hr]

/-- A present item in range is refused when its source is the target or stands at another position of the row (R61). -/
theorem ctReplace_entry {e : Entry} (h : it.present = true) (he : itemEntry it = some e) :
    ctReplace it (8 * t.val + p.val) b =
      if e.source = t ∨ duplicates b.rows[t] p e.source then none else some (setPosition b t p (some e)) := by
  simp only [ctReplace, h, he, ct_row, ct_position, Bool.not_true, Bool.false_eq_true, if_false]

theorem ctAdd_eq : ctAdd it (8 * t.val + p.val) b = b.rows[t][p].map fun e => setPosition b t p (some (addToEntry it e)) := by
  simp only [ctAdd, ct_row, ct_position]

end

/-- The clash of R61 in the words of the statement. -/
theorem clash_iff {row : Row} {t source : Slot} {p : Fin 8} {n : Nat} (hs : source.val = n) :
    (source = t ∨ duplicates row p source = true) ↔
      (n = t.val ∨ ∃ (q : Fin 8) (e : Entry), q ≠ p ∧ row[q] = some e ∧ e.source.val = n) := by
  subst hs
  simp only [duplicates_iff, Fin.ext_iff, exists_and_left]

/-- What an ADD write makes of an entry (R62). -/
theorem addToEntry_fields (it : CtItem) (e : Entry) :
    (addToEntry it e).gain.toInt = max (-32768) (min 32767 (e.gain.toInt + it.gain.toInt)) ∧
    (∀ q, e.pulseGain = some q → it.pulsePresent = true → ∃ q', (addToEntry it e).pulseGain = some q' ∧
      q'.toInt = max (-32768) (min 32767 (q.toInt + it.pulseGain.toInt))) ∧
    (∀ q, e.pulseGain = some q → it.pulsePresent = false → (addToEntry it e).pulseGain = some q) ∧
    (e.pulseGain = none → it.pulsePresent = true → (addToEntry it e).pulseGain = some it.pulseGain) ∧
    (e.pulseGain = none → it.pulsePresent = false → (addToEntry it e).pulseGain = none) := by
  refine ⟨toInt_addSaturated _ _, fun q hq hp => ⟨addSaturated q it.pulseGain, ?_, toInt_addSaturated _ _⟩,
    fun q hq hp => ?_, fun hn hp => ?_, fun hn hp => ?_⟩
  · simp [addToEntry, hq, hp]
  · simp [addToEntry, hq, hp]
  · simp [addToEntry, hn, hp]
  · simp [addToEntry, hn, hp]

/-- Settles O43: the cases of R61, and the two of R62. -/
theorem entriesAreReplacedAndAdjusted : Obligations.EntriesAreReplacedAndAdjusted := by
  refine ⟨fun r s u t p ht ho hh he => ?_, fun r s u t p ht ho hh he => ?_⟩
  · rw [← ht.banks] at he ⊢
    intro i present source kernel delay row inRange clash
    have listed : i ∈ dataRows r := by simp [dataRows, i]
    have decided : decideData r u = standbyWrite r .standbyCt (ctReplace (ctItemOf r.payload)) u :=
      decideData_ct (ht.openAt ho)
    have accepted : ∀ {e}, ctReplace (ctItemOf r.payload) (8 * t.val + p.val) (standbyBank u.banks) =
        some (setPosition (standbyBank u.banks) t p e) → AcceptedData i r .standbyCt s u (withPosition u t p e) :=
      acceptedData_of_standbyWrite ht listed ho decided hh he
    have refused : ctReplace (ctItemOf r.payload) (8 * t.val + p.val) (standbyBank u.banks) = none →
        Answered i 5 r (plainReply .badValue) s u := refusedData_of_standbyWrite ht listed ho decided hh he
    refine ⟨fun absent => accepted (ctReplace_absent (Bool.not_eq_true _ ▸ absent)),
      fun hp range => refused (ctReplace_out_of_range hp range), fun hp range hclash => refused ?_,
      fun e hp free hs hk hd hg hpg => accepted ?_⟩
    · obtain ⟨e, he, hs⟩ := itemEntry_source (it := ctItemOf r.payload) range
      rw [ctReplace_entry hp he, if_pos ((clash_iff hs).2 hclash)]
    · rw [ctReplace_entry hp (itemEntry_some hs hk hd hg hpg), if_neg fun h => free ((clash_iff hs).1 h)]
  · rw [← ht.banks] at he ⊢
    intro i sum dg dp
    have listed : i ∈ dataRows r := by simp [dataRows, i]
    have decided : decideData r u = standbyWrite r .standbyCt (ctAdd (ctItemOf r.payload)) u :=
      decideData_ct (ht.openAt ho)
    refine ⟨fun absent => refusedData_of_standbyWrite ht listed ho decided hh he ?_, fun e hpos => ?_⟩
    · rw [ctAdd_eq, absent, Option.map_none]
    · obtain ⟨gain, both, kept, first, absent⟩ := addToEntry_fields (ctItemOf r.payload) e
      refine ⟨addToEntry (ctItemOf r.payload) e, rfl, rfl, rfl, gain, both, kept, first, absent,
        acceptedData_of_standbyWrite ht listed ho decided hh he ?_⟩
      rw [ctAdd_eq, hpos, Option.map_some]
      rfl

end Sys2Proof.Machine
end

section
/-! PROOFS. DATA on STANDBY_KERNEL and STANDBY_TEMPLATE (R63 to R65). -/

namespace Sys2Proof.Machine

/-! The four words of an item -/

theorem editWords_written {n : Nat} (combine : Word → Word → Word) (p : Vector Byte 8) (q : Nat) (v : Vector Word n)
    {a : Fin n} {j : Fin 4} (h : a.val = 4 * q + j.val) :
    (editWords combine p q v)[a] = combine v[a] (payloadWord p j) := by
  have word : Fin.ofNat 4 a.val = j := by
    ext
    simp only [Fin.ofNat]
    omega
  simp only [editWords, Fin.getElem_fin, Vector.getElem_ofFn, word]
  rw [if_pos (by omega)]

theorem editWords_other {n : Nat} (combine : Word → Word → Word) (p : Vector Byte 8) {q : Nat} (v : Vector Word n) {a : Fin n}
    (h : a.val / 4 ≠ q) : (editWords combine p q v)[a] = v[a] := by
  simp only [editWords, Fin.getElem_fin, Vector.getElem_ofFn, if_neg h]

/-- Item 4k + q of STANDBY_KERNEL is taps 4q to 4q + 3 of kernel k (R59). -/
theorem kernelEdit_eq (combine : Word → Word → Word) (p : Vector Byte 8) (k : Fin 128) (q : Fin 4) (b : Bank) :
    kernelEdit combine p (4 * k.val + q.val) b =
      some { b with
        kernels := b.kernels.set k { taps := editWords combine p q.val b.kernels[k].taps, defined := true } } := by
  have kernel : Fin.ofNat 128 ((4 * k.val + q.val) / 4) = k := by
    ext
    simp only [Fin.ofNat]
    omega
  have quarter : (4 * k.val + q.val) % 4 = q.val := by omega
  simp only [kernelEdit, kernel, quarter]

/-- Item 8k + q of STANDBY_TEMPLATE is samples 4q to 4q + 3 of template k (R59). -/
theorem templateEdit_eq (combine : Word → Word → Word) (p : Vector Byte 8) (k q : Fin 8) (b : Bank) :
    templateEdit combine p (8 * k.val + q.val) b =
      some { b with templates := b.templates.set k (editWords combine p q.val b.templates[k]) } := by
  have template : Fin.ofNat 8 ((8 * k.val + q.val) / 8) = k := by
    ext
    simp only [Fin.ofNat]
    omega
  have eighth : (8 * k.val + q.val) % 8 = q.val := by omega
  simp only [templateEdit, template, eighth]

/-! Writes in a mode that combines stored and written words to a value -/

section
variable {r : Request} {s u : State} {combine : Word → Word → Word} {value : Word → Word → Int} {m : ContextMode}

/-- A write to an item of STANDBY_KERNEL: the kernel is defined, its four taps combined and the other twelve as they were. -/
theorem kernelEdit_written {i : Instr} {k : Fin 128} {q : Fin 4} (hv : ∀ a b, (combine a b).toInt = value a b)
    (ht : Taken r s u) (hi : i ∈ dataRows r) (ho : OpenAt r s .standbyKernel (4 * k.val + q.val) m)
    (hd : decideData r u = standbyWrite r .standbyKernel (kernelEdit combine r.payload) u) (hh : Holds r .standby s)
    (he : u.banks.engine = .idle) :
    ∃ x : Kernel, x.defined = true ∧
      (∀ (j : Fin 4) (a : Fin 16), a.val = 4 * q.val + j.val →
        x.taps[a].toInt = value (standbyBank u.banks).kernels[k].taps[a] (payloadWord r.payload j)) ∧
      (∀ a : Fin 16, a.val / 4 ≠ q.val → x.taps[a] = (standbyBank u.banks).kernels[k].taps[a]) ∧
      AcceptedData i r .standbyKernel s u
        { u with
          banks := setStandby u.banks { standbyBank u.banks with kernels := (standbyBank u.banks).kernels.set k x } } :=
  ⟨{ taps := editWords combine r.payload q.val (standbyBank u.banks).kernels[k].taps, defined := true }, rfl,
    fun j a ha => by rw [editWords_written combine r.payload q.val _ ha, hv],
    fun a ha => editWords_other combine r.payload _ ha,
    acceptedData_of_standbyWrite ht hi ho hd hh he (kernelEdit_eq combine r.payload k q _)⟩

/-- A write to an item of STANDBY_TEMPLATE: its four samples combined and the other 28 as they were. -/
theorem templateEdit_written {i : Instr} {k q : Fin 8} (hv : ∀ a b, (combine a b).toInt = value a b) (ht : Taken r s u)
    (hi : i ∈ dataRows r) (ho : OpenAt r s .standbyTemplate (8 * k.val + q.val) m)
    (hd : decideData r u = standbyWrite r .standbyTemplate (templateEdit combine r.payload) u) (hh : Holds r .standby s)
    (he : u.banks.engine = .idle) :
    ∃ x : Template,
      (∀ (j : Fin 4) (a : Fin 32), a.val = 4 * q.val + j.val →
        x[a].toInt = value (standbyBank u.banks).templates[k][a] (payloadWord r.payload j)) ∧
      (∀ a : Fin 32, a.val / 4 ≠ q.val → x[a] = (standbyBank u.banks).templates[k][a]) ∧
      AcceptedData i r .standbyTemplate s u
        { u with
          banks := setStandby u.banks { standbyBank u.banks with templates := (standbyBank u.banks).templates.set k x } } :=
  ⟨editWords combine r.payload q.val (standbyBank u.banks).templates[k],
    fun j a ha => by rw [editWords_written combine r.payload q.val _ ha, hv],
    fun a ha => editWords_other combine r.payload _ ha,
    acceptedData_of_standbyWrite ht hi ho hd hh he (templateEdit_eq combine r.payload k q _)⟩

end

theorem toInt_combineBy_replace (a b : Word) : (combineBy .replace a b).toInt = b.toInt := by
  rw [combineBy_of_not_add (by decide)]

theorem toInt_combineBy_add (a b : Word) :
    (combineBy .add a b).toInt = max (-32768) (min 32767 (a.toInt + b.toInt)) := by
  rw [combineBy_add, toInt_addSaturated]

/-- Settles O44: replaced and added taps, and replaced and added samples. -/
theorem tapsAndSamplesAreWritten : Obligations.TapsAndSamplesAreWritten := by
  refine ⟨fun r s u k q ht hh he => ?_, fun r s u k q ht hh he => ?_⟩ <;> rw [← ht.banks] at he ⊢
  · exact ⟨fun ho => kernelEdit_written (i := .dataStandbyKernelReplace r) toInt_combineBy_replace ht (by simp [dataRows]) ho
        (decideData_kernel (ht.openAt ho)) hh he,
      fun ho => kernelEdit_written (i := .dataStandbyKernelAdd r) toInt_combineBy_add ht (by simp [dataRows]) ho
        (decideData_kernel (ht.openAt ho)) hh he⟩
  · have row : Instr.dataStandbyTemplate r ∈ dataRows r := by simp [dataRows]
    exact ⟨fun ho => templateEdit_written toInt_combineBy_replace ht row ho (decideData_template (ht.openAt ho)) hh he,
      fun ho => templateEdit_written toInt_combineBy_add ht row ho (decideData_template (ht.openAt ho)) hh he⟩

end Sys2Proof.Machine
end

section
/-! SUPPORT. The completion of a target, block by block (R75, R80, R81, R94). -/

namespace Sys2Proof.Machine

/-! Saturation (R80) -/

theorem isSaturated_iff (v : Int) : isSaturated v = true ↔ 32767 < v ∨ v < -32767 := by simp [isSaturated]

theorem isSaturated_eq (v : Int) : isSaturated v = decide (32767 < v ∨ v < -32767) := by simp [isSaturated]

theorem clampCorrection_eq (v : Int) :
    clampCorrection v = BitVec.ofInt 16 (if 32767 < v then 32767 else if v < -32767 then -32767 else v) := by
  unfold clampCorrection
  split
  · rfl
  · split <;> rfl

/-! The next target (R75) -/

theorem nextPass_of_last {p : Pass} (h : p.next = 63) (saturated : Bool) : nextPass p saturated = none := by
  simp [nextPass, h]

theorem nextPass_of_succ {p : Pass} {u : Slot} (h : p.next.val + 1 = u.val) (saturated : Bool) :
    nextPass p saturated =
      some { frame := p.frame, next := u, saturationSeen := p.saturationSeen || saturated, work := TargetWork.start } := by
  have more : p.next.val + 1 < 64 := h ▸ u.isLt
  rw [nextPass, dif_pos more]
  simp only [h, Fin.eta]

theorem nextPass_isSome {p : Pass} (h : p.next ≠ 63) (saturated : Bool) : (nextPass p saturated).isSome = true := by
  have more : p.next.val + 1 < 64 := by
    have below := p.next.isLt
    have other : p.next.val ≠ 63 := fun e => h (Fin.eq_of_val_eq e)
    omega
  rw [nextPass, dif_pos more]
  rfl

theorem nextPass_isNone_iff (p : Pass) (saturated : Bool) : (nextPass p saturated).isNone = true ↔ p.next = 63 := by
  refine ⟨fun h => ?_, fun h => by rw [nextPass_of_last h]; rfl⟩
  by_contra other
  simp [nextPass_isSome other, ← Option.not_isSome] at h

/-! The completion -/

/-- The part once a running pass has recorded the derated value v of its next target, counted the saturation and given the Limit
Monitor its result, before the Capture Unit is offered the values (R80, R81, R94). -/
def judgedTarget (v : Int) (p : Pass) (s : State) : State :=
  let recorded := s.setCoupling
    { pass := nextPass p (isSaturated v)
      targets := s.coupling.targets.set p.next { last := clampCorrection v, stamp := some p.frame, fresh := true } }
  saturationResult p.next (isSaturated v)
    (if isSaturated v && !p.saturationSeen then bump .satPasses 1 recorded else recorded)

theorem judgedTarget_coupling (v : Int) (p : Pass) (s : State) :
    (judgedTarget v p s).coupling =
      { pass := nextPass p (isSaturated v)
        targets := s.coupling.targets.set p.next { last := clampCorrection v, stamp := some p.frame, fresh := true } } := by
  unfold judgedTarget
  simp only [saturationResult_coupling]
  split <;> rfl

theorem judgedTarget_capture (v : Int) (p : Pass) (s : State) : (judgedTarget v p s).capture = s.capture := by
  unfold judgedTarget
  simp only [saturationResult_capture]
  split <;> rfl

theorem judgedTarget_counters (v : Int) (p : Pass) (s : State) :
    (judgedTarget v p s).counters =
      if (32767 < v ∨ v < -32767) ∧ p.saturationSeen = false then counted 8 1 s.counters else s.counters := by
  unfold judgedTarget
  simp only [saturationResult_counters, Bool.and_eq_true, Bool.not_eq_true', isSaturated_iff]
  split <;> rfl

theorem saturationResult_keeps (t : Slot) (saturated : Bool) (s : State) :
    saturationResult t saturated s =
      { s with limit := (saturationResult t saturated s).limit, alerts := (saturationResult t saturated s).alerts } := by
  unfold saturationResult raiseIf
  simp only []
  split <;> split <;> rfl

/-- A completion moves the Coupling Engine, the counters, the Limit Monitor and the alerts, before the Capture Unit is offered the
values. -/
theorem judgedTarget_keeps (v : Int) (p : Pass) (s : State) :
    judgedTarget v p s =
      { s with
        coupling := (judgedTarget v p s).coupling
        counters := (judgedTarget v p s).counters
        limit := (judgedTarget v p s).limit
        alerts := (judgedTarget v p s).alerts } := by
  unfold judgedTarget
  simp only []
  rw [saturationResult_keeps]
  split <;> rfl

theorem saturationResult_raisesOnly (t : Slot) (saturated : Bool) (s : State) :
    RaisesOnly [9, 3] s (saturationResult t saturated s) := by
  have derated : ∀ b u, RaisesOnly [9] u (raiseIf b .targetDerated u) := fun b => .raiseIf (by decide) b
  have muted : ∀ b u, RaisesOnly [3] u (raiseIf b .targetMuted u) := fun b => .raiseIf (by decide) b
  unfold saturationResult
  simp only []
  exact (RaisesOnly.trans (l := []) (.of_eq (State.alerts_setLimit s _)) (derated _ _)).trans (muted _ _)

theorem judgedTarget_raisesOnly (v : Int) (p : Pass) (s : State) : RaisesOnly [9, 3] s (judgedTarget v p s) := by
  unfold judgedTarget
  simp only []
  refine .trans (l := []) (.of_eq ?_) (saturationResult_raisesOnly _ _ _)
  split <;> rfl

/-- The Capture Unit is offered the values behind target 63. -/
theorem completeTarget_eq (p : Pass) (s : State) :
    completeTarget p s =
      if p.next = 63 then completeItems (judgedTarget (deratedValue s p.frame p.next p.work) p s)
      else judgedTarget (deratedValue s p.frame p.next p.work) p s := by
  have ends := nextPass_isNone_iff p (isSaturated (deratedValue s p.frame p.next p.work))
  have pass := congrArg Coupling.pass (judgedTarget_coupling (deratedValue s p.frame p.next p.work) p s)
  unfold completeTarget
  simp only []
  unfold judgedTarget at *
  generalize deratedValue s p.frame p.next p.work = v at *
  simp only [] at pass ⊢
  rw [pass]
  simp only [ends]

theorem exec_targetCompletion_running {p : Pass} {s : State} (h : s.coupling.pass = some p) :
    exec .targetCompletion s = .next (completeTarget p s) := by
  simp only [exec, execTargetCompletion, h]

end Sys2Proof.Machine
end

section
/-! SUPPORT. What a lawful recording is, apart from the pass, and what arming, triggering and recording leave of it (R170 to R173). -/

namespace Sys2Proof.Machine

/-- The recording agrees with its capture state: what is recorded, kept and remaining (R170 to R173). -/
def RecordingLawful (c : Capture) : Prop :=
  c.preTrigger ≤ Config.preTriggerMax ∧ c.kept ≤ c.preTrigger ∧
  match c.state with
  | .idle => c = Capture.initial
  | .armed => c.rows.length ≤ Config.captureLength ∧ c.kept = 0 ∧ c.remaining = 0
  | .filling =>
    1 ≤ c.remaining ∧ c.remaining ≤ Config.captureLength - c.preTrigger ∧
    c.rows.length + c.remaining = c.kept + (Config.captureLength - c.preTrigger)
  | .done => c.remaining = 0 ∧ c.begun = none ∧ c.rows.length = c.kept + (Config.captureLength - c.preTrigger)

theorem captureLawful_iff (s : State) :
    CaptureLawful s ↔
      RecordingLawful s.capture ∧ (s.capture.begun.isSome = true → s.coupling.pass.isSome = true) := by
  unfold CaptureLawful RecordingLawful
  constructor
  · rintro ⟨pre, kept, begun, counts⟩
    exact ⟨⟨pre, kept, counts⟩, begun⟩
  · rintro ⟨⟨pre, kept, counts⟩, begun⟩
    exact ⟨pre, kept, begun, counts⟩

theorem recordingLawful_initial : RecordingLawful Capture.initial := ⟨Nat.zero_le _, Nat.le_refl 0, rfl⟩

theorem recorded_of_armed {c : Capture} (hc : c.state = .armed) (row : CaptureRow) :
    recorded c row = { c with rows := (c.rows ++ [row]).drop (c.rows.length + 1 - 256), begun := none } := by
  simp [recorded, hc]

theorem recorded_of_filling {c : Capture} (hc : c.state = .filling) (row : CaptureRow) :
    recorded c row =
      { c with
        rows := (c.rows ++ [row]).drop (c.rows.length + 1 - 256), begun := none, remaining := c.remaining - 1
        state := if c.remaining - 1 = 0 then .done else .filling } := by
  simp [recorded, hc]

namespace RecordingLawful

variable {c : Capture}

theorem preTrigger (h : RecordingLawful c) : c.preTrigger ≤ Config.preTriggerMax := h.1

theorem kept (h : RecordingLawful c) : c.kept ≤ c.preTrigger := h.2.1

theorem of_idle (h : RecordingLawful c) (hc : c.state = .idle) : c = Capture.initial := by
  simpa only [RecordingLawful, hc] using h.2.2

theorem of_armed (h : RecordingLawful c) (hc : c.state = .armed) :
    c.rows.length ≤ Config.captureLength ∧ c.kept = 0 ∧ c.remaining = 0 := by
  simpa only [RecordingLawful, hc] using h.2.2

theorem of_filling (h : RecordingLawful c) (hc : c.state = .filling) :
    1 ≤ c.remaining ∧ c.remaining ≤ Config.captureLength - c.preTrigger ∧
      c.rows.length + c.remaining = c.kept + (Config.captureLength - c.preTrigger) := by
  simpa only [RecordingLawful, hc] using h.2.2

theorem of_done (h : RecordingLawful c) (hc : c.state = .done) :
    c.remaining = 0 ∧ c.begun = none ∧ c.rows.length = c.kept + (Config.captureLength - c.preTrigger) := by
  simpa only [RecordingLawful, hc] using h.2.2

/-- Items are in progress only while a capture records. -/
theorem recording (h : RecordingLawful c) {b : BegunRow} (hb : c.begun = some b) : c.state = .armed ∨ c.state = .filling := by
  cases hc : c.state with
  | idle => rw [h.of_idle hc] at hb; cases hb
  | armed => exact .inl rfl
  | filling => exact .inr rfl
  | done => rw [(h.of_done hc).2.1] at hb; cases hb

/-- The counts of a capture that records do not look at its items in progress. -/
theorem withBegun (h : RecordingLawful c) (hc : c.state = .armed ∨ c.state = .filling) (b : Option BegunRow) :
    RecordingLawful { c with begun := b } := by
  refine ⟨h.preTrigger, h.kept, ?_⟩
  rcases hc with hc | hc <;> simp only [hc]
  · exact h.of_armed hc
  · exact h.of_filling hc

theorem withoutBegun (h : RecordingLawful c) : RecordingLawful { c with begun := none } := by
  cases hb : c.begun with
  | none => rw [← hb]; exact h
  | some b => exact h.withBegun (h.recording hb) none

/-- The rows recorded and the boundaries to go are what a filling set out with, so that the newest 256 rows are all of them. -/
theorem recorded (h : RecordingLawful c) (hc : c.state = .armed ∨ c.state = .filling) (row : CaptureRow) :
    RecordingLawful (recorded c row) := by
  have pre := h.preTrigger
  have few := h.kept
  rcases hc with hc | hc
  · obtain ⟨-, kept, remaining⟩ := h.of_armed hc
    rw [recorded_of_armed hc]
    refine ⟨pre, few, ?_⟩
    simp only [hc, kept, remaining, List.length_drop, List.length_append, List.length_singleton, Config.captureLength, and_true]
    omega
  · obtain ⟨some, below, total⟩ := h.of_filling hc
    simp only [Config.captureLength, Config.preTriggerMax] at below total pre
    rw [recorded_of_filling hc]
    refine ⟨pre, few, ?_⟩
    by_cases hl : c.remaining - 1 = 0 <;>
      simp only [hl, if_true, if_false, List.length_drop, List.length_append, List.length_singleton, Config.captureLength,
        true_and] <;>
      omega

/-- A trigger keeps no more than the pre-trigger count, and leaves the rest of the 256 to record. -/
theorem fireTrigger (h : RecordingLawful c) : RecordingLawful (fireTrigger c) := by
  have pre := h.preTrigger
  simp only [Config.preTriggerMax] at pre
  refine ⟨h.preTrigger, Nat.min_le_left _ _, ?_⟩
  simp only [Machine.fireTrigger, newest, List.length_drop, Config.captureLength]
  omega

end RecordingLawful

/-- A capture behind the trigger decision of a boundary (R172, R173). -/
def triggered (reports : List NoticeReport) (shockEntry : Bool) (c : Capture) : Capture :=
  if c.state = .armed ∧ triggerHit c.trigger reports shockEntry then fireTrigger c else c

theorem RecordingLawful.triggered {c : Capture} (h : RecordingLawful c) (reports : List NoticeReport) (shockEntry : Bool) :
    RecordingLawful (triggered reports shockEntry c) := by
  unfold Machine.triggered
  split
  · exact h.fireTrigger
  · exact h

/-- The items a boundary begins (R171). -/
def begunItems (m : Word) (s : State) : BegunRow := { frame := m, entries := channelEntries s m }

/-- The part with the trigger decided and the items of the boundary begun. -/
def withItemsBegun (m : Word) (reports : List NoticeReport) (shockEntry : Bool) (s : State) : State :=
  s.setCapture { triggered reports shockEntry s.capture with begun := some (begunItems m s) }

/-- A capture that records begins the items of the boundary, and completes them when no pass began (R171, R94). -/
theorem captureBoundary_eq (m : Word) (reports : List NoticeReport) (shockEntry : Bool) (s : State) :
    captureBoundary m reports shockEntry s =
      if (triggered reports shockEntry s.capture).state = .armed ∨ (triggered reports shockEntry s.capture).state = .filling then
        if s.coupling.pass.isSome then withItemsBegun m reports shockEntry s
        else completeItems (withItemsBegun m reports shockEntry s)
      else s := rfl

theorem captureArguments_preTrigger {p : Vector Byte 8} {a : CaptureArguments} (h : captureArguments p = some a) :
    a.preTrigger ≤ Config.preTriggerMax := by
  simp only [captureArguments] at h
  split at h
  · split at h
    · next checked =>
      cases h
      simp only [Bool.and_eq_true, decide_eq_true_eq] at checked
      exact checked.2
    · cases h
  · cases h

theorem recordingLawful_armed {a : CaptureArguments} (h : a.preTrigger ≤ Config.preTriggerMax) : RecordingLawful (armed a) := by
  refine ⟨h, Nat.zero_le _, ?_⟩
  simp only [Config.preTriggerMax] at h
  by_cases immediate : a.trigger = .immediate
  · simp only [armed, immediate, if_true, List.length_nil, Config.captureLength]
    exact ⟨by omega, Nat.le_refl _, trivial⟩
  · simp [armed, immediate]

end Sys2Proof.Machine
end

section
/-! PROOFS. Every step keeps the recording in step with its counts (R94, R170 to R173). -/

namespace Sys2Proof.Machine

/-! The part -/

/-- The recording is lawful, and no items are in progress. -/
def RecordingAtRest (s : State) : Prop := RecordingLawful s.capture ∧ s.capture.begun = none

/-- Without items in progress the pass does not matter. -/
theorem RecordingAtRest.captureLawful {s : State} (h : RecordingAtRest s) : CaptureLawful s :=
  (captureLawful_iff s).2 ⟨h.1, fun hb => by simp [h.2] at hb⟩

theorem RecordingAtRest.congr {s t : State} (h : RecordingAtRest s) (hc : t.capture = s.capture) : RecordingAtRest t := by
  unfold RecordingAtRest
  rwa [hc]

theorem recordingAtRest_initial {s : State} (h : s.capture = Capture.initial) : RecordingAtRest s := by
  unfold RecordingAtRest
  rw [h]
  exact ⟨recordingLawful_initial, rfl⟩

namespace CaptureLawful

variable {s t : State}

theorem recording (h : CaptureLawful s) : RecordingLawful s.capture := ((captureLawful_iff s).1 h).1

/-- The recording looks at no more of the pass than whether it runs. -/
theorem congr (h : CaptureLawful s) (hc : t.capture = s.capture)
    (hp : t.coupling.pass.isSome = s.coupling.pass.isSome) : CaptureLawful t := by
  rw [captureLawful_iff] at *
  rwa [hc, hp]

theorem congr_coupling (h : CaptureLawful s) (hc : t.capture = s.capture) (hp : t.coupling = s.coupling) :
    CaptureLawful t := h.congr hc (by rw [hp])

theorem atRest (h : CaptureLawful s) (hp : s.coupling.pass = none) : RecordingAtRest s := by
  obtain ⟨recording, begun⟩ := (captureLawful_iff s).1 h
  refine ⟨recording, Option.not_isSome_iff_eq_none.1 fun hb => ?_⟩
  simpa [hp] using begun hb

end CaptureLawful

/-! Items complete, and a boundary begins new ones -/

theorem completeItems_recordingAtRest {s : State} (h : RecordingLawful s.capture) : RecordingAtRest (completeItems s) := by
  cases hb : s.capture.begun with
  | none =>
    rw [completeItems_of_none hb]
    exact ⟨h, hb⟩
  | some b =>
    rw [completeItems_of_begun hb]
    refine ⟨h.recorded (h.recording hb) _, ?_⟩
    simp only [recorded]
    split <;> rfl

theorem overrunPass_recordingAtRest {s : State} (h : CaptureLawful s) : RecordingAtRest (overrunPass s) := by
  cases hp : s.coupling.pass with
  | none => rw [overrunPass_of_none hp]; exact h.atRest hp
  | some p => rw [overrunPass_of_some hp]; exact completeItems_recordingAtRest h.recording

theorem captureBoundary_captureLawful (m : Word) (reports : List NoticeReport) (shockEntry : Bool) {s : State}
    (h : RecordingAtRest s) : CaptureLawful (captureBoundary m reports shockEntry s) := by
  rw [captureBoundary_eq]
  split
  · next recording =>
    have begun : RecordingLawful (withItemsBegun m reports shockEntry s).capture :=
      (h.1.triggered reports shockEntry).withBegun recording _
    split
    · next hp => exact (captureLawful_iff _).2 ⟨begun, fun _ => hp⟩
    · exact (completeItems_recordingAtRest begun).captureLawful
  · exact h.captureLawful

/-- A boundary has no items in progress when it comes to the Capture Unit (log 6). -/
theorem frameBoundary_captureLawful (f : Frame) {s : State} (h : CaptureLawful s) : CaptureLawful (frameBoundary f s) := by
  have abandoned : RecordingAtRest (boundaryIntake f s) := (overrunPass_recordingAtRest h).congr (by simp [boundaryIntake])
  unfold frameBoundary
  refine (captureBoundary_captureLawful f.number _ _ (abandoned.congr ?_)).congr_coupling (persistBoundary_capture _)
    (persistBoundary_coupling _)
  simp

/-! Commands -/

theorem decideArmCapture_captureLawful (r : Request) {s : State} (h : CaptureLawful s) :
    CaptureLawful (decideArmCapture r s).1 := by
  unfold decideArmCapture
  split
  · exact h
  · split
    · exact h
    · next a ha => exact RecordingAtRest.captureLawful ⟨recordingLawful_armed (captureArguments_preTrigger ha), rfl⟩

theorem decideCommand_captureLawful (code : Byte) (r : Request) {s : State} (h : CaptureLawful s) :
    CaptureLawful (decideCommand code r s).1 := by
  have keeps : ∀ {t : State}, t.capture = s.capture → t.coupling = s.coupling → CaptureLawful t := h.congr_coupling
  exact decideCommand_preserves CaptureLawful code r s (keeps (by simp) (by simp)) (keeps (by simp) (by simp))
    (keeps (by simp) (by simp)) (keeps (by simp) (by simp)) (keeps (by simp) (by simp)) (keeps (by simp) (by simp))
    (keeps (by simp) (by simp)) (keeps (by simp) (by simp)) (keeps (by simp) (by simp)) (keeps (by simp) (by simp))
    (decideArmCapture_captureLawful r h) (keeps (by simp) (by simp)) (keeps (by simp) (by simp)) h

theorem answerCommand_captureLawful (sent decided : Byte) (r : Request) {s : State} (h : CaptureLawful s) :
    CaptureLawful (answerCommand sent r (decideCommand decided r) s) :=
  CaptureLawful.congr_coupling
    (decideCommand_captureLawful decided r (h.congr_coupling (renewLeases_capture r s) (renewLeases_coupling r s))) rfl rfl

theorem takeCommand_captureLawful (sent decided : Byte) (r : Request) {s : State} (h : CaptureLawful s) :
    CaptureLawful (takeCommand sent r (decideCommand decided r) s) := by
  unfold takeCommand
  split
  · split
    · exact answerCommand_captureLawful sent decided r h
    · exact h
  · exact h

theorem areaCell_captureLawful (a : AreaStep) (c : MgmtCell) (h : CaptureLawful a.state) :
    CaptureLawful (areaCell a c).1.state := by
  rcases areaCell_cases a c with ha | ⟨-, ha⟩ | ⟨-, k, ha⟩ | ⟨-, -, ha⟩ <;> rw [ha]
  case inr.inr.inr => exact answerCommand_captureLawful c.code c.code (cellRequest c) h
  all_goals exact h

theorem takeCells_captureLawful (lo hi : Nat) (cells : Vector MgmtCell 4) (a : AreaStep) (h : CaptureLawful a.state) :
    CaptureLawful (takeCells lo hi cells a).1.state :=
  takeCells_preserves (fun a => CaptureLawful a.state) areaCell_captureLawful lo hi cells a h

/-! Resets, the end of a passage and the loss of lock -/

theorem coldStart_recordingAtRest (u : StartUp) (s : State) : RecordingAtRest (coldStart u s) :=
  recordingAtRest_initial (by simp [coldStart, blankPart, State.reset])

theorem warmActions_recordingAtRest (k : ResetReason) (c : PortCondition) (s : State) :
    RecordingAtRest (warmActions k c s) := recordingAtRest_initial rfl

theorem lostLock_recordingAtRest (s : State) : RecordingAtRest (lostLock s) := recordingAtRest_initial rfl

theorem unpower_recordingAtRest (s : State) : RecordingAtRest (unpower s) := recordingAtRest_initial rfl

theorem beginReset_captureLawful (k : Option ResetKind) {s : State} (h : CaptureLawful s) : CaptureLawful (beginReset k s) :=
  beginReset_of_some (fun _ => h) (coldStart_recordingAtRest _ s).captureLawful
    (warmActions_recordingAtRest _ _ s).captureLawful

theorem endPassage_captureLawful {s : State} (h : CaptureLawful s) : CaptureLawful (endPassage s) :=
  beginReset_captureLawful _ (h.congr_coupling (cutPassage_capture s) (cutPassage_coupling s))

theorem loseLock_captureLawful (s : State) : CaptureLawful (loseLock s) :=
  (lostLock_recordingAtRest (endPassage s)).captureLawful

/-! Frames -/

theorem takeFirst_captureLawful (k : Nat) (cells : Vector MgmtCell 4) {s : State} (h : CaptureLawful s) :
    CaptureLawful (takeFirst k cells s).1.state := takeCells_captureLawful 0 k cells _ h

theorem endOutbound_captureLawful (f : Frame) {a : AreaStep × Vector MgmtCell 4} (h : CaptureLawful a.1.state) :
    CaptureLawful (endOutbound f a) :=
  beginReset_captureLawful a.1.reset (h.congr_coupling rfl rfl)

theorem CaptureLawful.compose {s : State} (h : CaptureLawful s) (n : Nat) (f : Frame) :
    CaptureLawful (composeFrom n f s).2 :=
  h.congr_coupling (composeFrom_capture n f s) (composeFrom_coupling n f s)

theorem CaptureLawful.gapTested {s : State} (h : CaptureLawful s) (f : Frame) : CaptureLawful (gapTested f s) := by
  unfold Machine.gapTested
  split
  · exact h.congr_coupling (gapTest_capture _ _ s) (gapTest_coupling _ _ s)
  · exact h

theorem finishPassage_captureLawful {s : State} (h : CaptureLawful s) : CaptureLawful (finishPassage s) := by
  unfold finishPassage
  split
  · exact h
  · exact endOutbound_captureLawful _ (takeCells_captureLawful _ _ _ _ (h.compose _ _))

theorem lockedOutbound_captureLawful (f : Frame) (m : Composition) {s : State} (h : CaptureLawful s) :
    CaptureLawful (lockedOutbound f m s) := by
  have composed := (h.gapTested f).compose 0 f
  cases m with
  | atOnce => rw [lockedOutbound_atOnce]; exact endOutbound_captureLawful _ (takeFirst_captureLawful _ _ composed)
  | cut k => rw [lockedOutbound_cut]; exact endOutbound_captureLawful _ (takeFirst_captureLawful _ _ composed)
  | byCell => rw [lockedOutbound_byCell]; exact (h.gapTested f).congr_coupling rfl rfl

theorem outboundFrame_captureLawful {f : Frame} {b : PassageStart} {m : Composition} {s t : State} (hs : CaptureLawful s)
    (h : exec (.outboundFrame f b m) s = .next t) : CaptureLawful t := by
  have finished := finishPassage_captureLawful hs
  have forwarded : CaptureLawful (forwardOutbound f (finishPassage s)) := finished.congr_coupling rfl rfl
  simp only [exec, execOutboundFrame] at h
  split at h
  · cases h; exact hs
  · split at h
    · cases h; exact forwarded
    · split at h
      · cases h; exact forwarded.congr_coupling (searchOutbound_capture f _) (searchOutbound_coupling f _)
      · split at h <;> cases h
        · exact lockedOutbound_captureLawful f m finished
        · unfold badOutbound
          simp only []
          split
          · exact loseLock_captureLawful _
          · exact forwarded

theorem outboundCellArrival_captureLawful {s t : State} (hs : CaptureLawful s) (h : exec .outboundCellArrival s = .next t) :
    CaptureLawful t := by
  simp only [exec, execOutboundCellArrival] at h
  split at h
  · cases h; exact hs
  · next c _ =>
    split at h <;> cases h
    · exact hs.congr_coupling (by simp) (by simp)
    · have arrived := areaCell_captureLawful { state := s, reset := c.reset }
        c.frame.commands[Fin.ofNat 4 (c.next - c.frame.used.toNat)] hs
      unfold arriveCommand
      simp only []
      split
      · exact arrived.congr_coupling rfl rfl
      · exact endOutbound_captureLawful _ arrived

theorem returnFrame_captureLawful {f : Frame} {p : ReturnPassage} {s t : State} (hs : CaptureLawful s)
    (h : exec (.returnFrame f p) s = .next t) : CaptureLawful t := by
  have received : CaptureLawful (receivedReturn f s) := by
    have failed : ∀ c, CaptureLawful (failedReturn c f s) := fun c =>
      hs.congr_coupling (failedReturn_capture c f s) (failedReturn_coupling c f s)
    unfold receivedReturn
    split
    · exact failed _
    · split
      · exact frameBoundary_captureLawful f (hs.congr_coupling rfl rfl)
      · exact failed _
  simp only [exec, execReturnFrame] at h
  split at h
  · cases h; exact hs
  · split at h
    · cases h; exact hs.congr_coupling rfl rfl
    · split at h
      · cases h; split <;> exact hs.congr_coupling rfl rfl
      all_goals cases h; exact received

/-! Power and resets -/

theorem takeReset_captureLawful (k : ResetKind) (r : Request) {s : State} (h : CaptureLawful s) :
    CaptureLawful (takeReset k r s) := by
  unfold takeReset
  split
  · split
    · exact beginReset_captureLawful _ (h.congr_coupling (by simp) (by simp))
    · exact h
  · exact h

/-- The falling edge of RST_N drops the pass and its items in progress together (log 20). -/
theorem rstNFall_captureLawful {s t : State} (hs : CaptureLawful s) (h : exec .rstNFall s = .next t) : CaptureLawful t := by
  simp only [exec, execRstNFall] at h
  split at h <;> cases h
  · exact RecordingAtRest.captureLawful ⟨(endPassage_captureLawful hs).recording.withoutBegun, rfl⟩
  · exact hs

theorem rstNRise_captureLawful {x : Straps} {s t : State} (hs : CaptureLawful s) (h : exec (.rstNRise x) s = .next t) :
    CaptureLawful t := by
  simp only [exec, execRstNRise] at h
  split at h
  · cases h; exact hs
  · split at h <;> cases h
    · exact hs.congr_coupling rfl rfl
    · exact (coldStart_recordingAtRest _ _).captureLawful
    · exact (warmActions_recordingAtRest _ _ _).captureLawful
    · exact (warmActions_recordingAtRest _ _ _).captureLawful

theorem powerUp_captureLawful {x : Straps} {high : Bool} {s t : State} (h : exec (.powerUp x high) s = .next t) :
    CaptureLawful t := by
  simp only [exec, execPowerUp] at h
  split at h <;> cases h
  · exact (coldStart_recordingAtRest _ _).captureLawful
  · exact ((unpower_recordingAtRest s).congr rfl).captureLawful

/-! Ends of spans and of self-timed work -/

/-- A target that is not the last leaves a pass that runs, and the last completes the items in progress (R75, R94). -/
theorem completeTarget_captureLawful {p : Pass} {s : State} (hp : s.coupling.pass = some p) (h : CaptureLawful s) :
    CaptureLawful (completeTarget p s) := by
  rw [completeTarget_eq]
  split
  · refine (completeItems_recordingAtRest ?_).captureLawful
    rw [judgedTarget_capture]
    exact h.recording
  · next more =>
    refine h.congr (judgedTarget_capture _ p s) ?_
    rw [judgedTarget_coupling, hp]
    exact nextPass_isSome more _

theorem targetCompletion_captureLawful {s t : State} (hs : CaptureLawful s) (h : exec .targetCompletion s = .next t) :
    CaptureLawful t := by
  simp only [exec, execTargetCompletion] at h
  split at h <;> rw [Host.Outcome.next.injEq] at h <;> subst h
  · next p hp => exact completeTarget_captureLawful hp hs
  · exact hs

theorem passTick_captureLawful {s : State} (h : CaptureLawful s) : CaptureLawful (passTick s) := by
  refine h.congr (passTick_capture s) ?_
  unfold passTick
  split
  · rfl
  · next p hp => rw [hp]; rfl

theorem event_captureLawful (i : Instr) (hi : IsEvent i) (s t : State) (hs : CaptureLawful s) (h : exec i s = .next t) :
    CaptureLawful t := by
  cases hi with
  | outboundFrame f b m => exact outboundFrame_captureLawful hs h
  | returnFrame f p => exact returnFrame_captureLawful hs h
  | lineIdle =>
    simp only [exec, execLineIdle] at h
    split at h <;> cases h
    · exact hs.congr_coupling rfl rfl
    · exact loseLock_captureLawful s
    · exact hs
  | lockLoss =>
    cases h
    split
    · exact loseLock_captureLawful s
    · exact hs
  | settleEnd u => cases h; split <;> exact hs.congr_coupling rfl rfl
  | targetCompletion => exact targetCompletion_captureLawful hs h
  | shockExit => cases h; split <;> exact hs.congr_coupling rfl rfl
  | lockExpiry d => cases h; split <;> exact hs.congr_coupling rfl rfl
  | bankSwap =>
    cases h
    split
    · exact ((overrunPass_recordingAtRest hs).congr (swapBanks_capture _)).captureLawful
    · exact hs
  | resyncCopyEnd =>
    cases h
    split
    · exact hs.congr_coupling (copyStep_capture s) (copyStep_coupling s)
    · exact hs
  | captureComplete =>
    cases h
    split
    · exact (completeItems_recordingAtRest hs.recording).captureLawful
    · exact hs
  | persistEnd o =>
    simp only [exec, execPersistEnd] at h
    split at h <;> cases h
    · exact hs.congr_coupling (finishPersist_capture _ o s) (finishPersist_coupling _ o s)
    · exact hs
  | persistTimeLimit =>
    cases h
    split
    · exact hs.congr_coupling (persistBoundary_capture s) (persistBoundary_coupling s)
    · exact hs
  | resetFull r => cases h; exact takeReset_captureLawful _ r hs
  | resetWarm r => cases h; exact takeReset_captureLawful _ r hs
  | powerUp x high => exact powerUp_captureLawful h
  | profileLoadEnd =>
    simp only [exec, execProfileLoadEnd] at h
    split at h <;> cases h <;> exact hs.congr_coupling rfl rfl
  | rstNFall => exact rstNFall_captureLawful hs h
  | rstNRise x => exact rstNRise_captureLawful hs h
  | outboundCellArrival => exact outboundCellArrival_captureLawful hs h
  | lossOfPower => cases h; exact (unpower_recordingAtRest s).captureLawful

/-- Settles O59: every command and every event keeps the recording in step with its counts. -/
theorem captureStaysLawful : Obligations.CaptureStaysLawful :=
  step_preserves CaptureLawful (fun _ _ hs => hs.congr_coupling rfl rfl) (fun _ => passTick_captureLawful)
    (fun sent decided r _ => takeCommand_captureLawful sent decided r) event_captureLawful

end Sys2Proof.Machine
end

section
/-! PROOFS. A step with nothing waiting, and the completion of a target (R75, R76, R80, R81, log 14). -/

namespace Sys2Proof.Machine

/-! Nothing waiting -/

theorem step_of_nothing_waiting {s : State} (h : s.pending = []) : step s = .next (passTick s) := by simp only [step, h]

theorem passTick_of_none {s : State} (h : s.coupling.pass = none) : passTick s = s := by simp only [passTick, h]

theorem passTick_of_some {s : State} {p : Pass} (h : s.coupling.pass = some p) :
    passTick s = { s with coupling :=
      { s.coupling with pass := some { p with work := advanceWork s p.frame p.next p.work } } } := by
  simp only [passTick, h]
  rfl

/-- Settles O2. -/
theorem stepWithNothingWaiting : Obligations.StepWithNothingWaiting := fun s hq =>
  ⟨fun hp => by rw [step_of_nothing_waiting hq, passTick_of_none hp],
    fun p hp => by rw [step_of_nothing_waiting hq, passTick_of_some hp]⟩

/-! The completion of a target -/

theorem completeItems_keeps_rest (s : State) :
    completeItems s = { s with alerts := (completeItems s).alerts, capture := (completeItems s).capture } := by
  cases h : s.capture.begun with
  | none => rw [completeItems_of_none h]
  | some b => rw [completeItems_of_begun h]

/-- The offer to the Capture Unit moves the recording and the alerts alone. -/
theorem completeTarget_keeps (p : Pass) (s : State) :
    completeTarget p s =
      { s with
        coupling := (completeTarget p s).coupling
        counters := (completeTarget p s).counters
        limit := (completeTarget p s).limit
        alerts := (completeTarget p s).alerts
        capture := (completeTarget p s).capture } := by
  rw [completeTarget_eq]
  generalize deratedValue s p.frame p.next p.work = v
  split
  · rw [completeItems_keeps_rest, judgedTarget_keeps]
  · rw [judgedTarget_keeps]

theorem completeTarget_coupling (p : Pass) (s : State) :
    (completeTarget p s).coupling = (judgedTarget (deratedValue s p.frame p.next p.work) p s).coupling := by
  rw [completeTarget_eq]
  split
  · exact completeItems_coupling _
  · rfl

theorem completeTarget_counters (p : Pass) (s : State) :
    (completeTarget p s).counters = (judgedTarget (deratedValue s p.frame p.next p.work) p s).counters := by
  rw [completeTarget_eq]
  split
  · exact completeItems_counters _
  · rfl

theorem completeTarget_capture_of_more {p : Pass} (h : p.next ≠ 63) (s : State) : (completeTarget p s).capture = s.capture := by
  rw [completeTarget_eq, if_neg h, judgedTarget_capture]

/-- Settles O29. -/
theorem targetCompletes : Obligations.TargetCompletes := by
  intro p s hp
  have coupling := completeTarget_coupling p s
  have counters := completeTarget_counters p s
  simp only []
  generalize deratedValue s p.frame p.next p.work = v at coupling counters ⊢
  rw [judgedTarget_coupling] at coupling
  rw [judgedTarget_counters] at counters
  refine ⟨completeTarget p s, exec_targetCompletion_running hp, ?_, fun u hu => ⟨?_, ?_⟩, fun hl => ?_, counters,
    completeTarget_keeps p s⟩
  · rw [coupling, clampCorrection_eq]
  · rw [coupling, nextPass_of_succ hu, isSaturated_eq]
    rfl
  · refine completeTarget_capture_of_more (fun hl => ?_) s
    have below := u.isLt
    rw [hl] at hu
    change 63 + 1 = u.val at hu
    omega
  · rw [coupling, nextPass_of_last hl]

end Sys2Proof.Machine
end

section
/-! PROOFS. The Coupling Engine behind a frame boundary: abandonment, fresh marks and the start of the pass (R73, R74). -/

namespace Sys2Proof.Machine

@[simp] theorem boundaryStart_coupling (f : Frame) (s : State) : (boundaryStart f s).coupling = s.coupling := rfl
@[simp] theorem boundaryStart_banks (f : Frame) (s : State) : (boundaryStart f s).banks = s.banks := rfl
@[simp] theorem boundaryStart_capture (f : Frame) (s : State) : (boundaryStart f s).capture = s.capture := rfl

/-! The pass -/

/-- An abandoned pass leaves every last correction, stamp and fresh mark (R74). -/
theorem overrunPass_targets (s : State) : (overrunPass s).coupling.targets = s.coupling.targets := by
  cases h : s.coupling.pass with
  | none => rw [overrunPass_of_none h]
  | some p => rw [overrunPass_of_some h, completeItems_coupling]

theorem boundaryIntake_targets (f : Frame) (s : State) : (boundaryIntake f s).coupling.targets = s.coupling.targets := by
  simp only [boundaryIntake, limitBoundary_coupling, giveEntries_coupling, evaluateSlots_coupling, overrunPass_targets]

theorem frameBoundary_coupling (f : Frame) (s : State) :
    (frameBoundary f s).coupling =
      { pass :=
          if (frameBoundary f s).limit.mode = .run then
            some { frame := f.number, next := 0, saturationSeen := false, work := TargetWork.start }
          else none
        targets := Vector.ofFn fun t : Fin 64 => { s.coupling.targets[t] with fresh := false } } := by
  rw [frameBoundary_mode]
  simp only [frameBoundary, persistBoundary_coupling, captureBoundary_coupling, leaseBoundary_coupling, startPass,
    State.coupling_setCoupling, pulseBoundary_limit, engineBoundary_mode, pulseBoundary_coupling, engineBoundary_coupling,
    boundaryIntake_targets]

/-! Overruns -/

theorem overrunPass_overruns (s : State) :
    (overrunPass s).counters[(4 : Fin 10)] =
      countUp s.counters[(4 : Fin 10)] (if s.coupling.pass.isSome then 1 else 0) := by
  cases h : s.coupling.pass with
  | none => rw [overrunPass_of_none h]; exact (countUp_zero _).symm
  | some p => rw [overrunPass_of_some h, completeItems_counters]; exact bump_counter .passOverrun 1 s

theorem frameBoundary_overruns (f : Frame) (s : State) :
    (frameBoundary f s).counters[(4 : Fin 10)] =
      countUp s.counters[(4 : Fin 10)] (if s.coupling.pass.isSome then 1 else 0) := by
  rw [frameBoundary_counter (by decide), ← overrunPass_overruns]
  unfold boundaryIntake
  simp only []
  rw [limitBoundary_counter (by decide)]
  exact (bump_counter_ne (c := .holes) (by decide) _ _).trans (by rw [State.counters_setIntake, evaluateSlots_counters])

/-! No saturation result -/

theorem limitBoundary_records (n : Nat) (s : State) : (limitBoundary n s).limit.records = s.limit.records := by
  rcases limitBoundary_cases n s with ⟨m, -, -, e⟩ | ⟨m, -, -, e⟩ | ⟨-, -, e⟩ | ⟨-, -, -, e⟩ | ⟨-, -, -, e⟩ <;> rw [e] <;> rfl

/-- Of the reactions to a boundary only a swap touches the limit levels (R123). -/
theorem engineBoundary_limit_of_no_swap {s : State} (h : s.banks.engine ≠ .swapPending) :
    (engineBoundary s).limit = s.limit := by
  unfold engineBoundary
  split
  · rfl
  · exact validationStep_limit s
  · next pending => exact absurd pending h
  · exact copyStep_limit s

theorem frameBoundary_records {f : Frame} {s : State} (h : s.banks.engine ≠ .swapPending) :
    (frameBoundary f s).limit.records = s.limit.records := by
  have taken : (boundaryIntake f s).limit.records = s.limit.records := by
    simp only [boundaryIntake, limitBoundary_records, giveEntries_limit, evaluateSlots_limit, overrunPass_limit]
  rw [← taken, ← engineBoundary_limit_of_no_swap (s := boundaryIntake f s) (by rwa [boundaryIntake_banks])]
  simp only [frameBoundary, persistBoundary_limit, captureBoundary_limit, leaseBoundary_limit, startPass_limit,
    pulseBoundary_limit]

/-- Settles O19. -/
theorem passStartsAtTheBoundary : Obligations.PassStartsAtTheBoundary := by
  intro f s hm
  have keeps := matchedReturn_keeps f s
  have coupling := frameBoundary_coupling f (boundaryStart f s)
  have overruns := frameBoundary_overruns f (boundaryStart f s)
  have records := frameBoundary_records (f := f) (s := boundaryStart f s)
  refine ⟨matchedReturn f s, exec_returnFrame_matching f s hm, ?_⟩
  rw [matchedReturn_eq] at keeps ⊢
  generalize frameBoundary f (boundaryStart f s) = t at keeps coupling overruns records ⊢
  refine ⟨by rw [coupling]; rfl, fun u => ?_, overruns, keeps.counters 8 (by decide), keeps.muteSet, records⟩
  rw [coupling, Fin.getElem_fin, Vector.getElem_ofFn]
  rfl

end Sys2Proof.Machine
end

section
/-! SUPPORT. What the Pulse Scheduler tells of the notices of a frame boundary: which of them are repeats (R101, R102). -/

namespace Sys2Proof.Machine

/-- A notice repeats an instance of the pool: one of its slot, with its onset (R101). -/
def repeatsIn (m : Word) (pool : List Pulse) (n : Notice) : Bool :=
  (pulseOf pool n.slot).any fun q => q.onset == noticeOnset m n

theorem repeatsIn_congr {m : Word} {pool pool' : List Pulse} {n : Notice} (h : pulseOf pool n.slot = pulseOf pool' n.slot) :
    repeatsIn m pool n = repeatsIn m pool' n := by rw [repeatsIn, repeatsIn, h]

/-! The instance of another slot -/

theorem pulseOf_cons_ne {q : Pulse} {t : Slot} (h : q.source ≠ t) (pool : List Pulse) : pulseOf (q :: pool) t = pulseOf pool t :=
  List.find?_cons_of_neg (by simpa using h)

theorem pulseOf_insertPulse_ne {p : Pulse} {t : Slot} (h : p.source ≠ t) (pool : List Pulse) :
    pulseOf (insertPulse p pool) t = pulseOf pool t := by
  induction pool with
  | nil => exact pulseOf_cons_ne h []
  | cons q rest ih =>
    rw [insertPulse]
    split
    · by_cases hq : q.source = t
      · simp [pulseOf, hq]
      · rw [pulseOf_cons_ne hq, pulseOf_cons_ne hq, ih]
    · exact pulseOf_cons_ne h _

theorem pulseOf_without_ne {t u : Slot} (h : t ≠ u) (pool : List Pulse) :
    pulseOf (pool.filter fun q => q.source != u) t = pulseOf pool t := by
  rw [pulseOf, List.find?_filter]
  refine congrArg (fun f => List.find? f pool) (funext fun q => ?_)
  by_cases hq : q.source = t
  · simp [hq, h]
  · simp [hq]

/-! One notice after another -/

theorem takeNotice_reports (m : Word) (a : NoticeStep) (n : Notice) :
    (takeNotice m a n).reports = a.reports ++ [{ slot := n.slot, isRepeat := repeatsIn m a.pool n }] := by
  unfold takeNotice repeatsIn
  cases pulseOf a.pool n.slot with
  | none =>
    simp only [Option.any_none]
    split <;> rfl
  | some q =>
    by_cases h : q.onset = noticeOnset m n <;> simp [h]

/-- A notice touches the instance of its own slot alone. -/
theorem pulseOf_takeNotice_ne {n : Notice} {t : Slot} (h : n.slot ≠ t) (m : Word) (a : NoticeStep) :
    pulseOf (takeNotice m a n).pool t = pulseOf a.pool t := by
  have inserted : ∀ pool, pulseOf (insertPulse (newPulse m n) pool) t = pulseOf pool t := pulseOf_insertPulse_ne h
  unfold takeNotice
  split
  · split
    · rfl
    · exact (inserted _).trans (pulseOf_without_ne h.symm a.pool)
  · split
    · exact inserted a.pool
    · rfl

/-- Notices of different slots are each told against the pool as the boundary found it. -/
theorem foldl_takeNotice_reports (m : Word) (notices : List Notice) (hd : notices.Pairwise fun a b => a.slot < b.slot)
    (a : NoticeStep) :
    (notices.foldl (takeNotice m) a).reports =
      a.reports ++ notices.map fun n => { slot := n.slot, isRepeat := repeatsIn m a.pool n } := by
  induction notices generalizing a with
  | nil => simp
  | cons n rest ih =>
    obtain ⟨before, later⟩ := List.pairwise_cons.1 hd
    rw [List.foldl_cons, ih later, takeNotice_reports, List.append_assoc, List.map_cons]
    refine congrArg (a.reports ++ ·) (congrArg (_ :: ·) (List.map_congr_left fun x hx => ?_))
    rw [repeatsIn_congr (pulseOf_takeNotice_ne (Fin.ne_of_lt (before x hx)) m a)]

/-! Retirement -/

theorem evaluatePulse_eq_some {m : Word} {q p : Pulse} :
    evaluatePulse m q = some p ↔ ∃ j, playIndex q.onset m = some j ∧ p = { q with position := j, play := playState j } := by
  rw [evaluatePulse, Option.map_eq_some_iff]
  exact exists_congr fun j => and_congr_right fun _ => eq_comm

/-- The onset of a notice is 0 to 15 frames behind its own frame, where no instance is expired (R97). -/
theorem playIndex_noticeOnset (m : Word) (n : Notice) : ∃ j, playIndex (noticeOnset m n) m = some j := by
  have lead := n.lead.isLt
  have distance : (m + 1 - noticeOnset m n).toNat = (65537 - n.lead.toNat) % 65536 := by
    have e : m + 1 - noticeOnset m n = 1 - n.lead.setWidth 16 := by unfold noticeOnset; ring
    rw [e, BitVec.toNat_sub, BitVec.toNat_setWidth, Nat.mod_eq_of_lt (by omega : n.lead.toNat < 2 ^ 16)]
    change (2 ^ 16 - n.lead.toNat + 1) % 2 ^ 16 = _
    congr 1
    omega
  simp only [playIndex, distance, Config.templateLength]
  by_cases h : (65537 - n.lead.toNat) % 65536 < 32
  · exact ⟨_, if_pos h⟩
  · rw [if_neg h, if_pos (by omega)]
    exact ⟨_, rfl⟩

theorem repeatsIn_retirePulses {m : Word} {pool : List Pulse} (hn : (pool.map (·.source)).Nodup) (n : Notice) :
    repeatsIn m (retirePulses m pool) n = true ↔ ∃ q, q ∈ pool ∧ q.source = n.slot ∧ q.onset = noticeOnset m n := by
  have retired : ((retirePulses m pool).map (·.source)).Nodup := by
    rw [List.Nodup, List.pairwise_map] at hn ⊢
    refine List.Pairwise.filterMap _ (fun p q hpq p' hp q' hq => ?_) hn
    obtain ⟨j, -, rfl⟩ := evaluatePulse_eq_some.1 hp
    obtain ⟨k, -, rfl⟩ := evaluatePulse_eq_some.1 hq
    exact hpq
  constructor
  · intro h
    obtain ⟨p, hp, onset⟩ := (Option.any_eq_true _ _).1 h
    obtain ⟨q, hq, evaluated⟩ := List.mem_filterMap.1 (List.mem_of_find?_eq_some hp)
    have source := List.find?_some hp
    obtain ⟨j, -, rfl⟩ := evaluatePulse_eq_some.1 evaluated
    exact ⟨q, hq, by simpa using source, by simpa using onset⟩
  · rintro ⟨q, hq, source, onset⟩
    obtain ⟨j, hj⟩ := playIndex_noticeOnset m n
    have stays : { q with position := j, play := playState j } ∈ retirePulses m pool :=
      List.mem_filterMap.2 ⟨q, hq, evaluatePulse_eq_some.2 ⟨j, by rw [onset, hj], rfl⟩⟩
    rw [repeatsIn, ← source, pulseOf_of_mem retired stays]
    simpa using onset

/-! The reports of a boundary -/

/-- A notice is told as a repeat: in RUN and FREEZE, and only when the pool holds an instance of its slot with its onset (R101,
R102). -/
def ToldAsRepeat (mode : OperatingMode) (m : Word) (pool : List Pulse) (slot : Slot) (lead : BitVec 4) : Prop :=
  (mode = .run ∨ mode = .freeze) ∧ ∃ q, q ∈ pool ∧ q.source = slot ∧ q.onset = m + lead.setWidth 16

theorem pulseStep_reports {m : Word} {pool : List Pulse} {notices : List Notice} (hn : (pool.map (·.source)).Nodup)
    (hd : notices.Pairwise fun a b => a.slot < b.slot) (mode : OperatingMode) (r : NoticeReport) :
    r ∈ (pulseStep mode m notices pool).reports ↔
      ∃ n ∈ notices, r.slot = n.slot ∧ (r.isRepeat = true ↔ ToldAsRepeat mode m pool n.slot n.lead) := by
  obtain ⟨slot, isRepeat⟩ := r
  have taking : ∀ o : OperatingMode, o = .run ∨ o = .freeze →
      ({ slot, isRepeat } ∈ (pulseStep o m notices pool).reports ↔
        ∃ n ∈ notices, slot = n.slot ∧ (isRepeat = true ↔ ToldAsRepeat o m pool n.slot n.lead)) := by
    intro o ho
    rw [pulseStep_of_taking ho, foldl_takeNotice_reports m notices hd, List.nil_append, List.mem_map]
    refine exists_congr fun n => and_congr_right fun _ => ?_
    rw [NoticeReport.mk.injEq, Bool.eq_iff_iff, repeatsIn_retirePulses hn, eq_comm, ToldAsRepeat, and_iff_right ho]
    exact and_congr_right fun _ => iff_comm
  have flushing : ∀ o : OperatingMode, ¬ (o = .run ∨ o = .freeze) →
      ({ slot, isRepeat } ∈ notices.map (fun n => NoticeReport.mk n.slot false) ↔
        ∃ n ∈ notices, slot = n.slot ∧ (isRepeat = true ↔ ToldAsRepeat o m pool n.slot n.lead)) := by
    intro o ho
    rw [List.mem_map]
    refine exists_congr fun n => and_congr_right fun _ => ?_
    have told : ¬ ToldAsRepeat o m pool n.slot n.lead := fun h => ho h.1
    rw [NoticeReport.mk.injEq, eq_comm, iff_false_right told, Bool.not_eq_true, eq_comm (a := false)]
  cases mode
  case run => exact taking .run (.inl rfl)
  case freeze => exact taking .freeze (.inr rfl)
  case off => exact flushing .off (by decide)
  case shockHold => exact flushing .shockHold (by decide)

end Sys2Proof.Machine
end

section
/-! SUPPORT. The Capture Unit's part in a frame boundary: the trigger, the items begun there, and CAPTURE_DONE (R94, R171 to R173). -/

namespace Sys2Proof.Machine

/-! The trigger -/

section
variable (reports : List NoticeReport) (shockEntry : Bool)

theorem triggerHit_seek (slot : Slot) :
    triggerHit (.seek slot) reports shockEntry = true ↔ ∃ r ∈ reports, r.slot = slot ∧ r.isRepeat = false := by
  simp [triggerHit]

theorem triggerHit_iff (trigger : Trigger) :
    triggerHit trigger reports shockEntry = true ↔
      (∃ slot, trigger = .seek slot ∧ ∃ r ∈ reports, r.slot = slot ∧ r.isRepeat = false) ∨
        (trigger = .shock ∧ shockEntry = true) := by
  cases trigger with
  | immediate => simp [triggerHit]
  | seek slot =>
    rw [triggerHit_seek]
    refine ⟨fun told => .inl ⟨slot, rfl, told⟩, ?_⟩
    rintro (⟨u, same, told⟩ | ⟨other, -⟩)
    · cases same; exact told
    · cases other
  | shock => simp [triggerHit]

theorem triggered_channels (c : Capture) : (triggered reports shockEntry c).channels = c.channels := by
  unfold triggered; split <;> rfl

/-- A trigger leaves a capture that records. -/
theorem triggered_of_not_recording {c : Capture}
    (h : ¬ ((triggered reports shockEntry c).state = .armed ∨ (triggered reports shockEntry c).state = .filling)) :
    triggered reports shockEntry c = c := by
  unfold triggered at h ⊢
  split
  · next fires => rw [if_pos fires] at h; exact absurd (.inr rfl) h
  · rfl

theorem triggered_done (c : Capture) : (triggered reports shockEntry c).state = .done ↔ c.state = .done := by
  unfold triggered
  split
  · next fires => exact iff_of_false nofun (by rw [fires.1]; nofun)
  · rfl

end

/-! The items of the frame -/

/-- Items begun and completed in one go are recorded like items in progress. -/
theorem recorded_withBegun (c : Capture) (b : Option BegunRow) (row : CaptureRow) :
    recorded { c with begun := b } row = recorded c row := by
  unfold recorded
  rfl

theorem recorded_channels (c : Capture) (row : CaptureRow) : (recorded c row).channels = c.channels := by
  unfold recorded
  simp only []
  split <;> rfl

theorem channelEntries_get {m : Word} {s : State} (h : s.intake.head = some m) (c : Fin 4) :
    (channelEntries s m)[c] = s.capture.channels[c].bind fun u => s.intake.history[u][0] := by
  simp only [channelEntries, Fin.getElem_fin, Vector.getElem_ofFn]
  cases s.capture.channels[c.val] with
  | none => rfl
  | some u =>
    rw [h]
    exact readHistory_of_age (a := 0) (by rw [BitVec.sub_self]; rfl)

/-- Of the capture itself a row of completed items looks at the channels alone. -/
theorem isRow_congr {row : CaptureRow} {n : Word} {entry : Fin 4 → Option Word} {u v : State}
    (channels : v.capture.channels = u.capture.channels) (slots : v.slots = u.slots)
    (targets : v.coupling.targets = u.coupling.targets) (limit : v.limit = u.limit) (h : IsRow row n entry u) :
    IsRow row n entry v := by
  unfold IsRow KeepsStatus at *
  rwa [channels, slots, targets, limit]

section
variable {m : Word} {reports : List NoticeReport} {shockEntry : Bool} {s : State}

theorem captureBoundary_of_not_recording
    (h : ¬ ((triggered reports shockEntry s.capture).state = .armed ∨
      (triggered reports shockEntry s.capture).state = .filling)) :
    (captureBoundary m reports shockEntry s).capture = triggered reports shockEntry s.capture := by
  rw [captureBoundary_eq, if_neg h, triggered_of_not_recording reports shockEntry h]

theorem captureBoundary_of_pass
    (h : (triggered reports shockEntry s.capture).state = .armed ∨ (triggered reports shockEntry s.capture).state = .filling)
    (hp : s.coupling.pass.isSome = true) :
    (captureBoundary m reports shockEntry s).capture =
      { triggered reports shockEntry s.capture with begun := some (begunItems m s) } := by
  rw [captureBoundary_eq, if_pos h, if_pos hp]
  rfl

theorem captureBoundary_of_no_pass
    (h : (triggered reports shockEntry s.capture).state = .armed ∨ (triggered reports shockEntry s.capture).state = .filling)
    (hp : s.coupling.pass = none) :
    ∃ row, IsRow row m (fun c => (channelEntries s m)[c]) s ∧
      (captureBoundary m reports shockEntry s).capture = recorded (triggered reports shockEntry s.capture) row := by
  refine ⟨completedRow (withItemsBegun m reports shockEntry s) (begunItems m s),
    isRow_congr (u := withItemsBegun m reports shockEntry s) (triggered_channels reports shockEntry s.capture).symm rfl rfl rfl
      (isRow_completedRow _ (begunItems m s)), ?_⟩
  rw [captureBoundary_eq, if_pos h, hp, if_neg (by nofun), completeItems_of_begun (b := begunItems m s) rfl]
  exact recorded_withBegun _ _ _

end

/-! CAPTURE_DONE -/

theorem completeItems_captureDone (s : State) :
    (completeItems s).alerts.pending.getLsbD (13 : Fin 16) = true ↔
      s.alerts.pending.getLsbD (13 : Fin 16) = true ∨ s.capture.state = .filling ∧ (completeItems s).capture.state = .done := by
  cases hb : s.capture.begun with
  | none =>
    rw [completeItems_of_none hb]
    refine (or_iff_left ?_).symm
    rintro ⟨filling, done⟩
    simp [done] at filling
  | some b =>
    rw [completeItems_of_begun hb]
    by_cases hd : (recorded s.capture (completedRow s b)).state = .done ∧ s.capture.state = .filling
    · simp only [if_pos hd]
      exact iff_of_true ((pending_raiseAlert .captureDone s 13).2 (.inr rfl)) (.inr hd.symm)
    · simp only [if_neg hd]
      exact (or_iff_left fun h => hd h.symm).symm

/-- From s to t CAPTURE_DONE is raised exactly when the capture has become DONE, and a DONE capture stays DONE. -/
structure RaisesCaptureDone (s t : State) : Prop where
  raised : t.alerts.pending.getLsbD (13 : Fin 16) = true ↔
    s.alerts.pending.getLsbD (13 : Fin 16) = true ∨ s.capture.state ≠ .done ∧ t.capture.state = .done
  stays : s.capture.state = .done → t.capture.state = .done

namespace RaisesCaptureDone

variable {s t u : State}

theorem trans (h : RaisesCaptureDone s t) (k : RaisesCaptureDone t u) : RaisesCaptureDone s u where
  raised := by
    rw [k.raised, h.raised]
    have hs := h.stays
    have ks := k.stays
    tauto
  stays := k.stays ∘ h.stays

/-- A reaction that raises other sources, and neither ends nor reopens the recording. -/
theorem of_raisesOnly {l : List (Fin 16)} (h : RaisesOnly l s t) (hl : 13 ∉ l)
    (hc : t.capture.state = .done ↔ s.capture.state = .done) : RaisesCaptureDone s t where
  raised := by
    rw [h 13 hl, hc]
    exact (or_iff_left fun h => h.1 h.2).symm
  stays := hc.2

theorem completeItems (h : RecordingLawful s.capture) : RaisesCaptureDone s (completeItems s) where
  raised := by
    rw [completeItems_captureDone]
    refine or_congr_right (and_congr_left fun done => ⟨fun filling => by rw [filling]; nofun, fun other => ?_⟩)
    cases hb : s.capture.begun with
    | none => rw [completeItems_of_none hb] at done; exact absurd done other
    | some b =>
      rcases h.recording hb with armed | filling
      · rw [completeItems_of_begun hb] at done
        simp [recorded_of_armed armed, armed] at done
      · exact filling
  stays hd := by rw [completeItems_of_none (h.of_done hd).2.1]; exact hd

theorem overrunPass (h : RecordingLawful s.capture) : RaisesCaptureDone s (overrunPass s) := by
  cases hp : s.coupling.pass with
  | none =>
    rw [overrunPass_of_none hp]
    exact of_raisesOnly (l := []) (.of_eq rfl) (by decide) Iff.rfl
  | some p =>
    rw [overrunPass_of_some hp]
    refine .trans ?_ (completeItems ?_)
    · exact of_raisesOnly (l := []) (.of_eq rfl) (by decide) Iff.rfl
    · exact h

theorem captureBoundary {m : Word} {reports : List NoticeReport} {shockEntry : Bool} (h : RecordingLawful s.capture) :
    RaisesCaptureDone s (captureBoundary m reports shockEntry s) := by
  rw [captureBoundary_eq]
  split
  · next recording =>
    have begun : RaisesCaptureDone s (withItemsBegun m reports shockEntry s) :=
      of_raisesOnly (l := []) (.of_eq rfl) (by decide) (triggered_done reports shockEntry s.capture)
    split
    · exact begun
    · exact begun.trans (completeItems ((h.triggered reports shockEntry).withBegun recording _))
  · exact of_raisesOnly (l := []) (.of_eq rfl) (by decide) Iff.rfl

end RaisesCaptureDone

end Sys2Proof.Machine
end

section
/-! PROOFS. The Capture Unit at a frame boundary, at the end of a pass and at the completion that ends the capture (R94, R171 to
R173). -/

namespace Sys2Proof.Machine

/-! The notices that can trigger (R45, R172) -/

/-- A slot hands over a notice with this lead (R45). -/
def HandsOver (f : Frame) (u : SlotUnit) (slot : Slot) (lead : BitVec 4) : Prop :=
  ∃ c : Fin 64, u.records[slot].state ≠ .detached ∧ u.map[slot] = some c ∧ c.val < f.used.toNat ∧
    isPresent f.cells[c] = true ∧ hasNotice f.cells[c] = true ∧ lead = noticeLead f.cells[c]

theorem handsOver_iff {f : Frame} {u : SlotUnit} {slot : Slot} {lead : BitVec 4} :
    HandsOver f u slot lead ↔ ∃ n ∈ boundaryNotices f u, n.slot = slot ∧ n.lead = lead := by
  constructor
  · rintro ⟨c, hr, hc, hu, hp, hn, rfl⟩
    exact ⟨noticeIn slot f.cells[c], mem_boundaryNotices.2 ⟨c, hr, hc, hu, hp, hn, rfl, rfl, rfl⟩, rfl, rfl⟩
  · rintro ⟨n, hm, rfl, rfl⟩
    obtain ⟨c, hr, hc, hu, hp, hn, -, -, lead⟩ := mem_boundaryNotices.1 hm
    exact ⟨c, hr, hc, hu, hp, hn, lead⟩

/-- A slot that hands over a notice is not detached, so that its instance has stayed. -/
theorem toldAsRepeat_stayingPulses {f : Frame} {s : State} {slot : Slot} {lead : BitVec 4}
    (h : HandsOver f (frameBoundary f s).slots slot lead) (mode : OperatingMode) (m : Word) :
    ToldAsRepeat mode m (stayingPulses f s.slots s.pool) slot lead ↔ ToldAsRepeat mode m s.pool slot lead := by
  obtain ⟨-, attached, -⟩ := h
  rw [frameBoundary_slots] at attached
  refine and_congr_right fun _ => exists_congr fun q => ?_
  rw [stayingPulses, List.mem_filter, and_assoc]
  refine and_congr_right fun _ => and_iff_right_of_imp fun hq => ?_
  rw [hq.1, Bool.not_eq_true', ← Bool.not_eq_true, detachedNow_iff]
  exact fun hd => attached hd.2

/-- A slot is told to the Capture Unit with a new pulse exactly when it hands over a notice that is not a repeat (R102). -/
theorem boundaryPulses_told {s : State} (hn : (s.pool.map (·.source)).Nodup) (f : Frame) (slot : Slot) :
    (∃ r ∈ (boundaryPulses f s).reports, r.slot = slot ∧ r.isRepeat = false) ↔
      ∃ lead, HandsOver f (frameBoundary f s).slots slot lead ∧
        ¬ ToldAsRepeat (frameBoundary f s).limit.mode f.number s.pool slot lead := by
  have staying : ((stayingPulses f s.slots s.pool).map (·.source)).Nodup := hn.sublist (List.filter_sublist.map _)
  have reports := pulseStep_reports (m := f.number) staying (boundaryNotices_ascending f (frameBoundary f s).slots)
    (frameBoundary f s).limit.mode
  unfold boundaryPulses
  constructor
  · rintro ⟨r, hr, rfl, new⟩
    obtain ⟨n, hm, same, told⟩ := (reports r).1 hr
    have handed : HandsOver f (frameBoundary f s).slots r.slot n.lead := handsOver_iff.2 ⟨n, hm, same.symm, rfl⟩
    refine ⟨n.lead, handed, fun repeated => ?_⟩
    rw [← toldAsRepeat_stayingPulses handed, same] at repeated
    rw [told.2 repeated] at new
    cases new
  · rintro ⟨lead, handed, new⟩
    obtain ⟨n, hm, rfl, rfl⟩ := handsOver_iff.1 handed
    rw [← toldAsRepeat_stayingPulses handed] at new
    exact ⟨⟨n.slot, false⟩, (reports _).2 ⟨n, hm, rfl, iff_of_false nofun new⟩, rfl, rfl⟩

/-! The boundary -/

/-- Shock entry: the boundary brings SHOCK_HOLD about (R124, R172). -/
def entersShock (f : Frame) (s : State) : Bool :=
  s.limit.mode != .shockHold && (frameBoundary f s).limit.mode == .shockHold

/-- The part as the other reactions to a boundary leave it for the Capture Unit (log 6). -/
def captureStart (f : Frame) (s : State) : State :=
  leaseBoundary (startPass f.number (pulseBoundary f.number (boundaryNotices f (boundaryIntake f s).slots)
    (engineBoundary (boundaryIntake f s))))

theorem frameBoundary_eq (f : Frame) (s : State) :
    frameBoundary f s =
      persistBoundary (captureBoundary f.number (boundaryPulses f s).reports (entersShock f s) (captureStart f s)) := by
  rw [boundaryPulses_eq, entersShock, frameBoundary_mode]
  rfl

theorem captureStart_capture (f : Frame) (s : State) : (captureStart f s).capture = (overrunPass s).capture := by
  simp [captureStart, boundaryIntake]

/-- Capture Unit and Profile Store come last: what they look at is what the boundary leaves. -/
theorem captureStart_result (f : Frame) (s : State) :
    (captureStart f s).slots = (frameBoundary f s).slots ∧ (captureStart f s).intake = (frameBoundary f s).intake ∧
    (captureStart f s).coupling = (frameBoundary f s).coupling ∧ (captureStart f s).limit = (frameBoundary f s).limit := by
  simp only [frameBoundary_eq, persistBoundary_slots, captureBoundary_slots, persistBoundary_intake, captureBoundary_intake,
    persistBoundary_coupling, captureBoundary_coupling, persistBoundary_limit, captureBoundary_limit, and_self]

/-- The capture of an abandoned pass: its items in progress are recorded (R74, R94). -/
theorem overrunPass_capture_of_begun {s : State} (h : CaptureLawful s) {b : BegunRow} (hb : s.capture.begun = some b) :
    (overrunPass s).capture = recorded s.capture (completedRow s b) := by
  obtain ⟨p, hp⟩ := Option.isSome_iff_exists.1 (((captureLawful_iff s).1 h).2 (by rw [hb]; rfl))
  rw [overrunPass_of_begun hp hb]

theorem overrunPass_capture_of_not_begun {s : State} (hb : s.capture.begun = none) : (overrunPass s).capture = s.capture := by
  cases hp : s.coupling.pass with
  | none => rw [overrunPass_of_none hp]
  | some p => rw [overrunPass_of_not_begun hp hb]

theorem captureStart_raisesOnly (f : Frame) (s : State) :
    RaisesOnly [12, 1, 15, 4, 5, 11, 8] (overrunPass s) (captureStart f s) := by
  have given : ∀ u, RaisesOnly [] u (giveEntries f (overrunPass s).slots u) := fun u => .of_eq (giveEntries_alerts f _ u)
  have intake : RaisesOnly [12, 1, 15] (overrunPass s) (boundaryIntake f s) := by
    unfold boundaryIntake
    exact ((evaluateSlots_raisesOnly f _).trans (given _)).trans (limitBoundary_raisesOnly _ _)
  have started : ∀ u, RaisesOnly [] u (startPass f.number u) := fun u => .of_eq (startPass_alerts f.number u)
  unfold captureStart
  exact (((intake.trans (engineBoundary_raisesOnly _)).trans (pulseBoundary_raisesOnly _ _ _)).trans (started _)).trans
    (leaseBoundary_raisesOnly _)

/-- Two reactions to a boundary can end a capture: the abandonment of a pass and the Capture Unit's own (R94, R173). -/
theorem frameBoundary_raisesCaptureDone (f : Frame) {s : State} (h : CaptureLawful s) :
    RaisesCaptureDone s (frameBoundary f s) := by
  have between : RaisesCaptureDone (overrunPass s) (captureStart f s) :=
    .of_raisesOnly (captureStart_raisesOnly f s) (by decide) (by rw [captureStart_capture])
  have recording : RecordingLawful (captureStart f s).capture := by
    rw [captureStart_capture]
    exact (overrunPass_recordingAtRest h).1
  rw [frameBoundary_eq]
  exact (((RaisesCaptureDone.overrunPass h.recording).trans between).trans (.captureBoundary recording)).trans
    (.of_raisesOnly (persistBoundary_raisesOnly _) (by decide) (by rw [persistBoundary_capture]))

/-- The capture behind the trigger decision of a boundary. -/
def triggeredAt (f : Frame) (s : State) : Capture :=
  triggered (boundaryPulses f s).reports (entersShock f s) (overrunPass s).capture

theorem frameBoundary_capture (f : Frame) (s : State) :
    (frameBoundary f s).capture =
      (captureBoundary f.number (boundaryPulses f s).reports (entersShock f s) (captureStart f s)).capture := by
  rw [frameBoundary_eq, persistBoundary_capture]

theorem captureStart_triggered (f : Frame) (s : State) :
    triggered (boundaryPulses f s).reports (entersShock f s) (captureStart f s).capture = triggeredAt f s := by
  rw [captureStart_capture, triggeredAt]

theorem captureStart_channels (f : Frame) (s : State) : (captureStart f s).capture.channels = (triggeredAt f s).channels := by
  rw [← captureStart_triggered, triggered_channels]

/-- A channel's item holds the newest entry of its slot, which is the one of the frame (R47, R171). -/
theorem captureStart_entries (f : Frame) (s : State) (c : Fin 4) :
    (channelEntries (captureStart f s) f.number)[c] =
      (triggeredAt f s).channels[c].bind fun u => (frameBoundary f s).intake.history[u][0] := by
  obtain ⟨-, intake, -, -⟩ := captureStart_result f s
  rw [channelEntries_get (by rw [intake, frameBoundary_head]), captureStart_channels, intake]

theorem captureStart_pass (f : Frame) (s : State) :
    (captureStart f s).coupling.pass =
      if (frameBoundary f s).limit.mode = .run then
        some { frame := f.number, next := 0, saturationSeen := false, work := TargetWork.start }
      else none := by
  obtain ⟨-, -, coupling, -⟩ := captureStart_result f s
  rw [coupling, frameBoundary_coupling]

theorem frameBoundary_capture_of_rest {f : Frame} {s : State}
    (h : (triggeredAt f s).state = .idle ∨ (triggeredAt f s).state = .done) : (frameBoundary f s).capture = triggeredAt f s := by
  have rest : ¬ ((triggeredAt f s).state = .armed ∨ (triggeredAt f s).state = .filling) := by
    rcases h with e | e <;> rw [e] <;> decide
  rw [← captureStart_triggered] at rest
  rw [frameBoundary_capture, captureBoundary_of_not_recording rest, captureStart_triggered]

theorem frameBoundary_capture_of_run {f : Frame} {s : State}
    (h : (triggeredAt f s).state = .armed ∨ (triggeredAt f s).state = .filling) (run : (frameBoundary f s).limit.mode = .run) :
    (frameBoundary f s).capture =
      { triggeredAt f s with begun := some (begunItems f.number (captureStart f s)) } := by
  have pass : (captureStart f s).coupling.pass.isSome = true := by
    rw [captureStart_pass, if_pos run, Option.isSome_some]
  rw [← captureStart_triggered] at h
  rw [frameBoundary_capture, captureBoundary_of_pass h pass, captureStart_triggered]

theorem frameBoundary_capture_of_no_run {f : Frame} {s : State}
    (h : (triggeredAt f s).state = .armed ∨ (triggeredAt f s).state = .filling) (rest : (frameBoundary f s).limit.mode ≠ .run) :
    ∃ row,
      IsRow row f.number (fun c => (triggeredAt f s).channels[c].bind fun u => (frameBoundary f s).intake.history[u][0])
        (frameBoundary f s) ∧
      (frameBoundary f s).capture = recorded (triggeredAt f s) row := by
  obtain ⟨slots, -, coupling, limit⟩ := captureStart_result f s
  rw [← captureStart_triggered] at h
  obtain ⟨row, items, completed⟩ := captureBoundary_of_no_pass (m := f.number) h ((captureStart_pass f s).trans (if_neg rest))
  rw [← frameBoundary_capture, captureStart_triggered] at completed
  refine ⟨row, ?_, completed⟩
  rw [funext (captureStart_entries f s)] at items
  refine isRow_congr ?_ slots.symm (congrArg Coupling.targets coupling.symm) limit.symm items
  rw [completed, recorded_channels, captureStart_channels]

/-! The trigger at a boundary (R172) -/

/-- The event a capture waits for, at the boundary of frame f: a notice of its SEEK slot that is not a repeat, or a shock entry. -/
def TriggeredBy (f : Frame) (s : State) (trigger : Trigger) : Prop :=
  (∃ slot lead, trigger = .seek slot ∧ HandsOver f (frameBoundary f s).slots slot lead ∧
    ¬ ToldAsRepeat (frameBoundary f s).limit.mode f.number s.pool slot lead) ∨
  (trigger = .shock ∧ s.limit.mode ≠ .shockHold ∧ (frameBoundary f s).limit.mode = .shockHold)

theorem triggerHit_boundary {s : State} (hn : (s.pool.map (·.source)).Nodup) (f : Frame) (trigger : Trigger) :
    triggerHit trigger (boundaryPulses f s).reports (entersShock f s) = true ↔ TriggeredBy f s trigger := by
  rw [triggerHit_iff, TriggeredBy, entersShock, Bool.and_eq_true, bne_iff_ne, beq_iff_eq]
  refine or_congr_left (exists_congr fun slot => ?_)
  rw [boundaryPulses_told hn, exists_and_left]

theorem triggeredAt_of_trigger {s : State} (hn : (s.pool.map (·.source)).Nodup) {f : Frame}
    (h : (overrunPass s).capture.state = .armed ∧ TriggeredBy f s (overrunPass s).capture.trigger) :
    triggeredAt f s = fireTrigger (overrunPass s).capture := by
  rw [triggeredAt, triggered, if_pos ⟨h.1, (triggerHit_boundary hn f _).2 h.2⟩]

theorem triggeredAt_of_no_trigger {s : State} (hn : (s.pool.map (·.source)).Nodup) {f : Frame}
    (h : ¬ ((overrunPass s).capture.state = .armed ∧ TriggeredBy f s (overrunPass s).capture.trigger)) :
    triggeredAt f s = (overrunPass s).capture := by
  rw [triggeredAt, triggered, if_neg fun fires => h ⟨fires.1, (triggerHit_boundary hn f _).1 fires.2⟩]

/-! The completion of target 63 (R94) -/

theorem completeTarget_capture_of_not_begun {s : State} (h : s.capture.begun = none) (p : Pass) :
    (completeTarget p s).capture = s.capture := by
  rw [completeTarget_eq]
  split
  · rw [completeItems_of_none (by rwa [judgedTarget_capture]), judgedTarget_capture]
  · rw [judgedTarget_capture]

/-- The items in progress keep what target 63 and its saturation result leave (log 6). -/
theorem completeTarget_capture_of_begun {p : Pass} {s : State} (hl : p.next = 63) {b : BegunRow}
    (hb : s.capture.begun = some b) :
    ∃ row, IsRow row b.frame (fun c => b.entries[c]) (completeTarget p s) ∧
      (completeTarget p s).capture = recorded s.capture row := by
  rw [completeTarget_eq, if_pos hl]
  have capture := judgedTarget_capture (deratedValue s p.frame p.next p.work) p s
  generalize judgedTarget (deratedValue s p.frame p.next p.work) p s = j at capture ⊢
  rw [completeItems_of_begun (by rw [capture, hb])]
  refine ⟨completedRow j b, isRow_congr (recorded_channels _ _) rfl rfl rfl (isRow_completedRow j b), ?_⟩
  rw [← capture]

theorem completeTarget_captureDone (p : Pass) (s : State) :
    (completeTarget p s).alerts.pending.getLsbD (13 : Fin 16) = true ↔
      s.alerts.pending.getLsbD (13 : Fin 16) = true ∨
        s.capture.state = .filling ∧ (completeTarget p s).capture.state = .done := by
  rw [completeTarget_eq]
  have capture := judgedTarget_capture (deratedValue s p.frame p.next p.work) p s
  have raised := judgedTarget_raisesOnly (deratedValue s p.frame p.next p.work) p s 13 (by decide)
  generalize judgedTarget (deratedValue s p.frame p.next p.work) p s = j at capture raised ⊢
  split
  · rw [completeItems_captureDone, raised, capture]
  · rw [raised, capture]
    refine (or_iff_left ?_).symm
    rintro ⟨filling, done⟩
    rw [filling] at done
    cases done

/-! The completion that ends a capture -/

theorem recorded_last {c : Capture} (hf : c.state = .filling) (hl : c.remaining = 1) (row : CaptureRow) :
    (recorded c row).state = .done := by
  simp [recorded_of_filling hf, hl]

theorem exec_captureComplete_last {s : State} (hf : s.capture.state = .filling) (hl : s.capture.remaining = 1) {b : BegunRow}
    (hb : s.capture.begun = some b) : exec .captureComplete s = .next (completeItems s) := by
  simp [exec, execCaptureComplete, hf, hl, hb]

/-- Settles O26: the boundary, the completion of a target, and CAPTURE_COMPLETE as a step of its own. -/
theorem captureRecordsAndCompletes : Obligations.CaptureRecordsAndCompletes := by
  refine ⟨fun f s hm hc hpool => ?_, fun p s hp => ?_, fun b s hf hl hb => ?_⟩
  · have lawful : CaptureLawful (boundaryStart f s) := hc
    have sources : ((boundaryStart f s).pool.map (·.source)).Nodup := hpool.2.1
    have kept := overrunPass_capture_of_not_begun (s := boundaryStart f s)
    have abandoned : ∀ b, s.capture.begun = some b → ∃ row, IsRow row b.frame (fun c => b.entries[c]) s ∧
        (overrunPass (boundaryStart f s)).capture = recorded s.capture row := fun b hb =>
      ⟨_, isRow_congr rfl rfl rfl rfl (isRow_completedRow (boundaryStart f s) b), overrunPass_capture_of_begun lawful hb⟩
    have fires := triggeredAt_of_trigger (f := f) sources
    have waits := triggeredAt_of_no_trigger (f := f) sources
    have rest := frameBoundary_capture_of_rest (f := f) (s := boundaryStart f s)
    have begins := frameBoundary_capture_of_run (f := f) (s := boundaryStart f s)
    have entries := captureStart_entries f (boundaryStart f s)
    have completes := frameBoundary_capture_of_no_run (f := f) (s := boundaryStart f s)
    have done := (frameBoundary_raisesCaptureDone f lawful).raised
    unfold TriggeredBy HandsOver ToldAsRepeat at fires waits
    refine ⟨matchedReturn f s, (overrunPass (boundaryStart f s)).capture, triggeredAt f (boundaryStart f s),
      exec_returnFrame_matching f s hm, ?_⟩
    rw [matchedReturn_eq]
    generalize frameBoundary f (boundaryStart f s) = t at fires waits rest begins entries completes done ⊢
    exact ⟨kept, abandoned, ⟨fires, waits⟩, rest, fun h => ⟨fun run => ⟨_, rfl, entries, begins h run⟩, completes h⟩, done⟩
  · refine ⟨completeTarget p s, exec_targetCompletion_running hp, ?_, fun b hl hb => completeTarget_capture_of_begun hl hb,
      completeTarget_captureDone p s⟩
    rintro (more | nothing)
    · exact completeTarget_capture_of_more more s
    · exact completeTarget_capture_of_not_begun nothing p
  · refine ⟨completedRow s b, isRow_completedRow s b, recorded_last hf hl _, ?_⟩
    rw [exec_captureComplete_last hf hl hb, completeItems_of_begun hb, if_pos ⟨recorded_last hf hl _, hf⟩]

end Sys2Proof.Machine
end

section
/-! PROOFS. One seek notice against the Pulse Pool (R101 to R104). -/

namespace Sys2Proof.Machine

section
variable {m : Word} {n : Notice} {a : NoticeStep} {q : Pulse}

theorem takeNotice_of_repeat (hq : pulseOf a.pool n.slot = some q) (ho : q.onset = noticeOnset m n) :
    takeNotice m a n = { a with reports := a.reports ++ [{ slot := n.slot, isRepeat := true }] } := by
  simp only [takeNotice, hq, if_pos ho]

theorem takeNotice_of_supersede (hq : pulseOf a.pool n.slot = some q) (ho : q.onset ≠ noticeOnset m n) :
    takeNotice m a n =
      { a with
        pool := insertPulse (newPulse m n) (a.pool.filter fun q => q.source != n.slot)
        reports := a.reports ++ [{ slot := n.slot, isRepeat := false }] } := by
  simp only [takeNotice, hq, if_neg ho]

theorem takeNotice_of_room (hn : pulseOf a.pool n.slot = none) (hl : a.pool.length < Config.poolCapacity) :
    takeNotice m a n =
      { a with
        pool := insertPulse (newPulse m n) a.pool
        reports := a.reports ++ [{ slot := n.slot, isRepeat := false }] } := by
  simp only [takeNotice, hn, if_pos hl]

theorem takeNotice_of_full (hn : pulseOf a.pool n.slot = none) (hl : Config.poolCapacity ≤ a.pool.length) :
    takeNotice m a n =
      { a with drops := a.drops + 1, reports := a.reports ++ [{ slot := n.slot, isRepeat := false }] } := by
  simp only [takeNotice, hn, if_neg (Nat.not_lt.2 hl)]

end

/-- Settles O21: one equation of takeNotice for each row of R101's table. -/
theorem noticesAreDecided : Obligations.NoticesAreDecided := by
  intro m n a hn onset j new b
  have found : ∀ q ∈ a.pool, q.source = n.slot → pulseOf a.pool n.slot = some q := fun q hq hs =>
    hs ▸ pulseOf_of_mem hn hq
  refine ⟨fun q hq hs ho => ?_, fun q hq hs ho => ?_, fun free room => ?_, fun free full => ?_⟩
  · rw [show b = _ from takeNotice_of_repeat (found q hq hs) ho]
    exact ⟨rfl, rfl, rfl⟩
  · rw [show b = _ from takeNotice_of_supersede (found q hq hs) ho]
    exact ⟨rfl, rfl, rfl⟩
  · rw [show b = _ from takeNotice_of_room (pulseOf_of_no_source free) room]
    exact ⟨rfl, rfl, rfl⟩
  · rw [show b = _ from takeNotice_of_full (pulseOf_of_no_source free) full]
    exact ⟨rfl, rfl, rfl⟩

end Sys2Proof.Machine
end

section
/-! PROOFS. The order of the Pulse Pool under insertion and retirement, and the play index of an onset (R97 to R99). -/

namespace Sys2Proof.Machine

/-! The order of R98 -/

/-- Instance a precedes instance b in the order of R98. -/
def Precedes (a b : Pulse) : Prop := b.position < a.position ∨ (a.position = b.position ∧ a.source < b.source)

theorem standsBefore_iff {a b : Pulse} : standsBefore a b = true ↔ Precedes a b := by
  simp [standsBefore, Precedes]

theorem precedes_iff {a b : Pulse} :
    Precedes a b ↔ b.position < a.position ∨ (a.position = b.position ∧ a.source.val < b.source.val) := .rfl

theorem Precedes.trans {a b c : Pulse} (hab : Precedes a b) (hbc : Precedes b c) : Precedes a c := by
  rw [precedes_iff] at *
  omega

theorem precedes_of_not_precedes {a b : Pulse} (hs : a.source ≠ b.source) (h : ¬ Precedes a b) : Precedes b a := by
  have apart := Fin.val_ne_of_ne hs
  rw [precedes_iff] at *
  omega

/-! Insertion -/

theorem insertPulse_perm (p : Pulse) (pool : List Pulse) : (insertPulse p pool).Perm (p :: pool) := by
  induction pool with
  | nil => exact .refl _
  | cons q rest ih =>
    rw [insertPulse]
    split
    · exact (ih.cons q).trans (.swap p q rest)
    · exact .refl _

theorem insertPulse_ordered {p : Pulse} {pool : List Pulse} (ho : pool.Pairwise Precedes)
    (hs : ∀ q ∈ pool, q.source ≠ p.source) : (insertPulse p pool).Pairwise Precedes := by
  induction pool with
  | nil => exact List.pairwise_singleton _ p
  | cons q rest ih =>
    obtain ⟨first, later⟩ := List.pairwise_cons.1 ho
    obtain ⟨other, others⟩ := List.forall_mem_cons.1 hs
    rw [insertPulse]
    split
    next before =>
      refine List.pairwise_cons.2 ⟨fun x hx => ?_, ih later others⟩
      obtain rfl | hx := List.mem_cons.1 ((insertPulse_perm p rest).mem_iff.1 hx)
      · exact standsBefore_iff.1 before
      · exact first x hx
    next behind =>
      have ahead : Precedes p q := precedes_of_not_precedes other fun h => behind (standsBefore_iff.2 h)
      exact List.pairwise_cons.2 ⟨List.forall_mem_cons.2 ⟨ahead, fun x hx => ahead.trans (first x hx)⟩, ho⟩

/-! The play index -/

theorem playIndex_of_pending {onset m : Word} (h : 65522 ≤ (m + 1 - onset).toNat) :
    playIndex onset m = some ((m + 1 - onset).toNat - 65536 : Int) := by
  have behind : ¬ (m + 1 - onset).toNat < Config.templateLength := by unfold Config.templateLength; omega
  rw [playIndex, if_neg behind, if_pos h]

theorem playIndex_of_expired {onset m : Word} (hlow : 32 ≤ (m + 1 - onset).toNat) (hhigh : (m + 1 - onset).toNat ≤ 65521) :
    playIndex onset m = none := by
  have behind : ¬ (m + 1 - onset).toNat < Config.templateLength := Nat.not_lt.2 hlow
  rw [playIndex, if_neg behind, if_neg (by omega)]

/-- A play index lies from -14 to 31 and is m + 1 - onset modulo 65,536. -/
theorem playIndex_bounds {onset m : Word} {j : Int} (h : playIndex onset m = some j) :
    -14 ≤ j ∧ j ≤ 31 ∧ j ≡ m.toNat + 1 - onset.toNat [ZMOD 65536] := by
  have distance : ((m + 1 - onset).toNat : Int) ≡ m.toNat + 1 - onset.toNat [ZMOD 65536] := by
    unfold Int.ModEq
    bv_omega
  have bound := (m + 1 - onset).isLt
  obtain playing | ⟨low, high⟩ | pending :
      (m + 1 - onset).toNat < 32 ∨ (32 ≤ (m + 1 - onset).toNat ∧ (m + 1 - onset).toNat ≤ 65521) ∨
        65522 ≤ (m + 1 - onset).toNat := by omega
  · obtain rfl := Option.some.inj ((playIndex_of_playing (j := ⟨_, playing⟩) rfl).symm.trans h)
    exact ⟨by omega, Int.lt_add_one_iff.1 (Int.ofNat_lt.2 playing), distance⟩
  · rw [playIndex_of_expired low high] at h
    cases h
  · obtain rfl := Option.some.inj ((playIndex_of_pending pending).symm.trans h)
    exact ⟨by omega, by omega, by unfold Int.ModEq at *; omega⟩

/-- How far two onsets that are not expired stand apart does not depend on the frame. -/
theorem playIndex_sub_eq {o o' m k : Word} {i i' j j' : Int} (hi : playIndex o m = some i) (hi' : playIndex o' m = some i')
    (hj : playIndex o k = some j) (hj' : playIndex o' k = some j') : i - i' = j - j' := by
  obtain ⟨lowi, highi, modi⟩ := playIndex_bounds hi
  obtain ⟨lowi', highi', modi'⟩ := playIndex_bounds hi'
  obtain ⟨lowj, highj, modj⟩ := playIndex_bounds hj
  obtain ⟨lowj', highj', modj'⟩ := playIndex_bounds hj'
  have apart : i - i' ≡ o'.toNat - o.toNat [ZMOD 65536] := by simpa using modi.sub modi'
  have apart' : j - j' ≡ o'.toNat - o.toNat [ZMOD 65536] := by simpa using modj.sub modj'
  have same := (apart.trans apart'.symm).dvd
  omega

/-! Retirement -/

/-- Two instances evaluated for frame k keep their order when both are evaluated for frame m. -/
theorem Precedes.of_evaluatePulse {k m : Word} {p q p' q' : Pulse} (h : Precedes p q) (hp : evaluatePulse k p = some p)
    (hq : evaluatePulse k q = some q) (hp' : evaluatePulse m p = some p') (hq' : evaluatePulse m q = some q') :
    Precedes p' q' := by
  obtain ⟨i, indexp, evalp⟩ := evaluatePulse_eq_some.1 hp
  obtain ⟨j, indexq, evalq⟩ := evaluatePulse_eq_some.1 hq
  obtain ⟨i', indexp', rfl⟩ := evaluatePulse_eq_some.1 hp'
  obtain ⟨j', indexq', rfl⟩ := evaluatePulse_eq_some.1 hq'
  have apart : i - j = i' - j' := playIndex_sub_eq indexp indexq indexp' indexq'
  have positionp : p.position = i := congrArg Pulse.position evalp
  have positionq : q.position = j := congrArg Pulse.position evalq
  rw [precedes_iff] at *
  dsimp only
  omega

theorem retirePulses_ordered {pool : List Pulse} (ho : pool.Pairwise Precedes) (he : EvaluatedTogether pool) (m : Word) :
    (retirePulses m pool).Pairwise Precedes := by
  obtain ⟨k, evaluated⟩ := he
  refine List.pairwise_filterMap.2 (ho.imp_of_mem fun hp hq before p' hp' q' hq' => ?_)
  exact before.of_evaluatePulse (evaluated _ hp) (evaluated _ hq) hp' hq'

/-! An instance evaluated for a frame -/

theorem evaluatePulse_of_playing {m : Word} {q : Pulse} (h : (m + 1 - q.onset).toNat ≤ 31) :
    evaluatePulse m q = some { q with position := (m + 1 - q.onset).toNat, play := .playing } :=
  evaluatePulse_eq_some.2 ⟨_, playIndex_of_playing (j := ⟨_, Nat.lt_succ_of_le h⟩) rfl, by
    rw [playState, if_pos (Int.natCast_nonneg _)]⟩

theorem evaluatePulse_of_pending {m : Word} {q : Pulse} (h : 65522 ≤ (m + 1 - q.onset).toNat) :
    evaluatePulse m q = some { q with position := (m + 1 - q.onset).toNat - 65536, play := .pending } := by
  have bound := (m + 1 - q.onset).isLt
  exact evaluatePulse_eq_some.2 ⟨_, playIndex_of_pending h, by rw [playState, if_neg (by omega)]⟩

theorem evaluatePulse_of_expired {m : Word} {q : Pulse} (hlow : 32 ≤ (m + 1 - q.onset).toNat)
    (hhigh : (m + 1 - q.onset).toNat ≤ 65521) : evaluatePulse m q = none := by
  rw [evaluatePulse, playIndex_of_expired hlow hhigh, Option.map_none]

/-- Settles O22: the order of R98 is linear over distinct sources, and evaluation shifts the play indices of a pool alike. -/
theorem pulsesKeepOrderAndIndex : Obligations.PulsesKeepOrderAndIndex :=
  ⟨⟨fun p pool ho hs => ⟨insertPulse_ordered ho hs, insertPulse_perm p pool⟩,
    fun m _ ho he => ⟨retirePulses_ordered ho he m, fun _ => List.mem_filterMap⟩⟩,
   fun _ _ => ⟨evaluatePulse_of_playing, evaluatePulse_of_pending, evaluatePulse_of_expired⟩⟩

end Sys2Proof.Machine
end

section
/-! SUPPORT. The Limit Monitor: the derate ladder row by row, what a saturation result does, and a Limit Parameter behind
a write (R120, R121, R129). -/

namespace Sys2Proof.Machine

/-! The ladder (R120, R121) -/

section
variable {p : Limits} {r : LimitRecord}

/-- A MUTED target keeps its record (R120). -/
theorem applyResult_of_muted (h : r.level = .muted) (saturated : Bool) : applyResult p saturated r = r := by
  simp only [applyResult, h]

theorem applyResult_of_saturated (h : r.level ≠ .muted) :
    applyResult p true r =
      if p.saturationThreshold.toNat ≤ r.saturation + 4 then { level := levelDown r.level, saturation := 0, recovery := 0 }
      else { r with saturation := r.saturation + 4, recovery := 0 } := by
  unfold applyResult
  cases hl : r.level
  case muted => exact absurd hl h
  all_goals rfl

theorem applyResult_of_normal (h : r.level = .normal) :
    applyResult p false r = { r with saturation := r.saturation - 1 } := by
  simp only [applyResult, h]

theorem applyResult_of_derated (h : r.level = .level1 ∨ r.level = .level2) :
    applyResult p false r =
      if p.recoveryPeriod.toNat ≤ r.recovery + 1 then
        { level := levelUp r.level, saturation := r.saturation - 1, recovery := 0 }
      else { r with saturation := r.saturation - 1, recovery := r.recovery + 1 } := by
  rcases h with h | h <;> simp only [applyResult, h]

theorem levelUp_of_derated {l : LimitLevel} (h : l = .level1 ∨ l = .level2) : levelUp l ≠ .muted := by
  rcases h with rfl | rfl <;> decide

/-- Without a saturation no target is muted (R121). -/
theorem applyResult_unsaturated_muted_iff : (applyResult p false r).level = .muted ↔ r.level = .muted := by
  have derated : ∀ h : r.level = .level1 ∨ r.level = .level2, (applyResult p false r).level ≠ .muted := by
    intro h
    rw [applyResult_of_derated h]
    split
    · exact levelUp_of_derated h
    · rcases h with h | h <;> simp [h]
  cases hl : r.level
  case normal => simp [applyResult_of_normal hl, hl]
  case level1 => simpa using derated (.inl hl)
  case level2 => simpa using derated (.inr hl)
  case muted => simp [applyResult_of_muted hl, hl]

end

/-! The result of a target (R120) -/

theorem getLsbD_addSlot (m : SlotSet) (t u : Slot) : (addSlot m t).getLsbD u = (m.getLsbD u || decide (u = t)) := by
  have one : ((1 : SlotSet) <<< t.val).getLsbD u = decide (u = t) := by
    have := u.isLt
    rw [BitVec.getLsbD_shiftLeft, show (1 : SlotSet) = 1#64 from rfl, BitVec.getLsbD_one, Bool.eq_iff_iff]
    simp only [Fin.ext_iff, Bool.and_eq_true, decide_eq_true_eq, Bool.not_eq_true', decide_eq_false_iff_not]
    omega
  change (m ||| (1 : SlotSet) <<< t.val).getLsbD u = _
  rw [BitVec.getLsbD_or, one]

/-- The Limit Monitor with another record of target t, and the Mute Set m. -/
def withRecord (l : LimitMonitor) (t : Slot) (r : LimitRecord) (m : SlotSet) : LimitMonitor :=
  { l with records := l.records.set t r, muteSet := m }

theorem withRecord_get (l : LimitMonitor) (t : Slot) (r : LimitRecord) (m : SlotSet) : (withRecord l t r m).records[t] = r := by
  simp [withRecord]

theorem withRecord_get_ne {t u : Slot} (h : u ≠ t) (l : LimitMonitor) (r : LimitRecord) (m : SlotSet) :
    (withRecord l t r m).records[u] = l.records[u] := by
  have : t.val ≠ u.val := fun e => h (Fin.ext e.symm)
  simp [withRecord, this]

section
variable {t : Slot} {saturated : Bool} {s : State}

/-- A result without a step down writes the record and does no more (R120, R121). -/
theorem saturationResult_of_no_step
    (h : saturated = false ∨ (applyResult s.limit.params saturated s.limit.records[t]).level = s.limit.records[t].level) :
    saturationResult t saturated s =
      s.setLimit (withRecord s.limit t (applyResult s.limit.params saturated s.limit.records[t]) s.limit.muteSet) := by
  have down : (saturated && (applyResult s.limit.params saturated s.limit.records[t]).level != s.limit.records[t].level) =
      false := by
    rcases h with rfl | h
    · rfl
    · rw [h, bne_self_eq_false, Bool.and_false]
  simp only [saturationResult, down, Bool.false_and, raiseIf_false, Bool.false_eq_true, if_false]
  rfl

/-- A step down to another level than MUTED raises TARGET_DERATED (R120). -/
theorem saturationResult_of_derated
    (hd : (applyResult s.limit.params true s.limit.records[t]).level ≠ s.limit.records[t].level)
    (hm : (applyResult s.limit.params true s.limit.records[t]).level ≠ .muted) :
    saturationResult t true s =
      raiseAlert .targetDerated
        (s.setLimit (withRecord s.limit t (applyResult s.limit.params true s.limit.records[t]) s.limit.muteSet)) := by
  have down : ((applyResult s.limit.params true s.limit.records[t]).level != s.limit.records[t].level) = true := by simpa
  have other : ((applyResult s.limit.params true s.limit.records[t]).level == LimitLevel.muted) = false := by simpa
  simp only [saturationResult, down, other, Bool.true_and, Bool.not_false, raiseIf_true, raiseIf_false, Bool.false_eq_true,
    if_false]
  rfl

/-- The step down to MUTED raises TARGET_MUTED, and the target joins the Mute Set (R120). -/
theorem saturationResult_of_muted (hd : s.limit.records[t].level ≠ .muted)
    (hm : (applyResult s.limit.params true s.limit.records[t]).level = .muted) :
    saturationResult t true s =
      raiseAlert .targetMuted (s.setLimit
        (withRecord s.limit t (applyResult s.limit.params true s.limit.records[t]) (addSlot s.limit.muteSet t))) := by
  have down : ((applyResult s.limit.params true s.limit.records[t]).level != s.limit.records[t].level) = true := by
    rw [hm]
    simpa using hd.symm
  have muted : ((applyResult s.limit.params true s.limit.records[t]).level == LimitLevel.muted) = true := by simpa
  simp only [saturationResult, down, muted, Bool.true_and, Bool.not_true, raiseIf_true, raiseIf_false, if_true]
  rfl

/-- A result mutes the target, which joins the Mute Set, or leaves it muted or not as it was. -/
theorem saturationResult_limit_cases (t : Slot) (saturated : Bool) (s : State) :
    let new := applyResult s.limit.params saturated s.limit.records[t]
    (new.level = .muted ∧
      (saturationResult t saturated s).limit = withRecord s.limit t new (addSlot s.limit.muteSet t)) ∨
    ((new.level = .muted ↔ s.limit.records[t].level = .muted) ∧
      (saturationResult t saturated s).limit = withRecord s.limit t new s.limit.muteSet) := by
  intro new
  by_cases still : saturated = false ∨ new.level = s.limit.records[t].level
  · refine .inr ⟨?_, by rw [saturationResult_of_no_step still]; rfl⟩
    rcases still with rfl | same
    · exact applyResult_unsaturated_muted_iff
    · rw [same]
  · obtain ⟨hsat, step⟩ := not_or.1 still
    obtain rfl : saturated = true := by simpa using hsat
    have active : s.limit.records[t].level ≠ .muted := fun h => step (by rw [show new = _ from applyResult_of_muted h true])
    by_cases muted : new.level = .muted
    · exact .inl ⟨muted, by rw [saturationResult_of_muted active muted]; rfl⟩
    · exact .inr ⟨iff_of_false muted active, by rw [saturationResult_of_derated step muted]; rfl⟩

end

/-! Limit Parameters (R129) -/

/-- A value in range names one of the six items. -/
theorem item_lt_of_limitInRange {i : Nat} {v : Word} (h : limitInRange i v = true) : i < 6 := by
  by_contra outside
  obtain ⟨k, rfl⟩ : ∃ k, i = k + 6 := ⟨i - 6, by omega⟩
  exact Bool.false_ne_true h

theorem limitItem_setLimitItem {i : Nat} (h : i < 6) (p : Limits) (v : Word) : limitItem (setLimitItem p i v) i = v := by
  interval_cases i <;> rfl

theorem limitItem_setLimitItem_ne {i k : Nat} (hi : i < 6) (hk : k < 6) (h : k ≠ i) (p : Limits) (v : Word) :
    limitItem (setLimitItem p i v) k = limitItem p k := by
  interval_cases i <;> interval_cases k <;> simp [setLimitItem, limitItem] at h ⊢

theorem LimitsInRange.set {p : Limits} (h : LimitsInRange p) {i : Nat} {v : Word} (hv : limitInRange i v = true) :
    LimitsInRange (setLimitItem p i v) := by
  have hi := item_lt_of_limitInRange hv
  intro k hk
  by_cases same : k = i
  · rw [same, limitItem_setLimitItem hi]
    exact hv
  · rw [limitItem_setLimitItem_ne hi hk same]
    exact h k hk

theorem LimitsInRange.saturationThreshold_le {p : Limits} (h : LimitsInRange p) : p.saturationThreshold.toNat ≤ 1024 := by
  have range := h 0 (by decide)
  simp only [limitInRange, limitRange, limitItem, Bool.and_eq_true, decide_eq_true_eq] at range
  exact range.2

theorem LimitsInRange.shockHoldOff {p : Limits} (h : LimitsInRange p) :
    1 ≤ p.shockHoldOff.toNat ∧ p.shockHoldOff.toNat ≤ 4096 := by
  have range := h 4 (by decide)
  simp only [limitInRange, limitRange, limitItem, Bool.and_eq_true, decide_eq_true_eq] at range
  omega

end Sys2Proof.Machine
end

section
/-! SUPPORT. The Limit Monitor and the Profile Store apart: when levels, Mute Set, parameters and hold-off count are lawful, and what
keeps them so (R119, R122, R124, R126, R129). -/

namespace Sys2Proof.Machine

/-! One target -/

/-- A limit record in range that is MUTED exactly when its target is a member of the Mute Set (R119, R122). -/
structure LevelLawful (r : LimitRecord) (member : Bool) : Prop where
  ladder : LadderLawful r
  muted : r.level = .muted ↔ member = true

theorem levelLawful_initial : LevelLawful LimitRecord.initial false where
  ladder := ⟨Nat.zero_le _, Nat.zero_le _, fun _ => rfl⟩
  muted := by simp [LimitRecord.initial]

theorem levelLawful_muted : LevelLawful mutedRecord true where
  ladder := ⟨Nat.zero_le _, Nat.zero_le _, fun _ => rfl⟩
  muted := by simp [mutedRecord]

/-- A result keeps a record in range, as the threshold is at most 1,024 and a run below the period at most 65,535 (R120, R121). -/
theorem LadderLawful.applyResult {p : Limits} (hp : p.saturationThreshold.toNat ≤ 1024) {r : LimitRecord} (h : LadderLawful r)
    (saturated : Bool) : LadderLawful (applyResult p saturated r) := by
  obtain ⟨saturation, recovery, rest⟩ := h
  have period := p.recoveryPeriod.isLt
  by_cases active : r.level = .muted
  · rw [applyResult_of_muted active]
    exact ⟨saturation, recovery, rest⟩
  · cases saturated with
    | true =>
      rw [applyResult_of_saturated active]
      split
      · exact ⟨Nat.zero_le _, Nat.zero_le _, fun _ => rfl⟩
      · exact ⟨show r.saturation + 4 ≤ 1027 by omega, Nat.zero_le _, fun _ => rfl⟩
    | false =>
      have lower : r.saturation - 1 ≤ 1027 := by omega
      have derated : ∀ h : r.level = .level1 ∨ r.level = .level2, LadderLawful (Machine.applyResult p false r) := by
        intro h
        rw [applyResult_of_derated h]
        split
        · exact ⟨lower, Nat.zero_le _, fun _ => rfl⟩
        · exact ⟨lower, show r.recovery + 1 ≤ 65535 by omega, fun up => by rcases h with h | h <;> simp [h] at up⟩
      cases hl : r.level
      case normal => rw [applyResult_of_normal hl]; exact ⟨lower, recovery, rest⟩
      case level1 => exact derated (.inl hl)
      case level2 => exact derated (.inr hl)
      case muted => exact absurd hl active

/-! All targets -/

/-- Every record is lawful under the Mute Set. -/
def LevelsLawful (l : LimitMonitor) : Prop := ∀ t : Slot, LevelLawful l.records[t] (l.muteSet.getLsbD t)

theorem levelsLawful_initial : LevelsLawful LimitMonitor.initial := fun t => by
  simpa [LimitMonitor.initial] using levelLawful_initial

/-- A MUTES write in SET mode mutes the slots that join the set (R122). -/
theorem LevelsLawful.muteSlots {l : LimitMonitor} (h : LevelsLawful l) (operand : SlotSet) :
    LevelsLawful (muteSlots operand l) := by
  intro t
  simp only [Machine.muteSlots, Fin.getElem_fin, Vector.getElem_ofFn, BitVec.getLsbD_or]
  have old := h t
  cases hm : l.muteSet.getLsbD t <;> cases ho : operand.getLsbD t <;> rw [hm] at old
  case false.true => exact levelLawful_muted
  all_goals exact old

/-- A MUTES write in CLEAR mode gives the slots that leave the set NORMAL with nothing counted (R122). -/
theorem LevelsLawful.unmuteSlots {l : LimitMonitor} (h : LevelsLawful l) (operand : SlotSet) :
    LevelsLawful (unmuteSlots operand l) := by
  intro t
  have old := h t
  simp only [Machine.unmuteSlots, Fin.getElem_fin, Vector.getElem_ofFn, BitVec.getLsbD_and, BitVec.getLsbD_not, t.isLt,
    decide_true, Bool.true_and]
  cases hm : l.muteSet.getLsbD t <;> cases ho : operand.getLsbD t <;> rw [hm] at old
  case true.true => exact levelLawful_initial
  all_goals exact old

/-- The level reset at a swap leaves the MUTED targets (R123). -/
theorem LevelsLawful.swapLevels {l : LimitMonitor} (h : LevelsLawful l) : LevelsLawful (swapLevels l) := by
  intro t
  have old := h t
  simp only [Machine.swapLevels, Fin.getElem_fin, Vector.getElem_ofFn] at old ⊢
  split
  · exact old
  · next active =>
    rw [Bool.eq_false_iff.2 fun member => active (old.muted.2 member)]
    exact levelLawful_initial

/-- The records a WARM reset leaves agree with the Mute Set it keeps (R131). -/
theorem levelLawful_warmLevels (m : SlotSet) (t : Slot) : LevelLawful (warmLevels m)[t] (m.getLsbD t) := by
  simp only [warmLevels, Fin.getElem_fin, Vector.getElem_ofFn]
  cases m.getLsbD t
  · exact levelLawful_initial
  · exact levelLawful_muted

/-- A record written that is lawful under the set written with it; the other targets keep their membership. -/
theorem LevelsLawful.withRecord {l : LimitMonitor} (h : LevelsLawful l) {t : Slot} {r : LimitRecord} {m : SlotSet}
    (hr : LevelLawful r (m.getLsbD t)) (hm : ∀ u : Slot, u ≠ t → m.getLsbD u = l.muteSet.getLsbD u) :
    LevelsLawful (withRecord l t r m) := by
  intro u
  by_cases same : u = t
  · subst same
    rw [withRecord_get]
    exact hr
  · rw [withRecord_get_ne same, show (Machine.withRecord l t r m).muteSet = m from rfl, hm u same]
    exact h u

/-! The Limit Monitor -/

/-- In SHOCK_HOLD a hold-off count of 1 to 4,096 with a saved mode and no request, outside it none (R124, R126). -/
def HoldLawful (l : LimitMonitor) : Prop :=
  if l.mode = .shockHold then 1 ≤ l.holdOff ∧ l.holdOff ≤ 4096 ∧ l.saved.isSome = true ∧ l.request = none else l.holdOff = 0

/-- Parameters, levels, Mute Set and hold-off count of a Limit Monitor are lawful. -/
structure MonitorLawful (l : LimitMonitor) : Prop where
  params : LimitsInRange l.params
  levels : LevelsLawful l
  hold : HoldLawful l

theorem holdLawful_of_chosen {l : LimitMonitor} {m : ChosenMode} (hm : l.mode = m.operating) (hh : l.holdOff = 0) :
    HoldLawful l := by
  have outside : l.mode ≠ .shockHold := hm ▸ m.operating_ne_shockHold
  rwa [HoldLawful, if_neg outside]

theorem HoldLawful.of_chosen {l : LimitMonitor} (h : HoldLawful l) (hm : l.mode ≠ .shockHold) : l.holdOff = 0 := by
  rwa [HoldLawful, if_neg hm] at h

theorem HoldLawful.of_hold {l : LimitMonitor} (h : HoldLawful l) (hm : l.mode = .shockHold) :
    1 ≤ l.holdOff ∧ l.holdOff ≤ 4096 ∧ l.saved.isSome = true ∧ l.request = none := by
  rwa [HoldLawful, if_pos hm] at h

theorem holdLawful_of_hold {l : LimitMonitor} (hm : l.mode = .shockHold) (low : 1 ≤ l.holdOff) (high : l.holdOff ≤ 4096)
    (saved : l.saved.isSome = true) (request : l.request = none) : HoldLawful l := by
  rw [HoldLawful, if_pos hm]
  exact ⟨low, high, saved, request⟩

/-- Every reset leaves a chosen mode and no hold-off (R130, R131). -/
theorem monitorLawful_of_reset {l : LimitMonitor} {m : ChosenMode} (params : LimitsInRange l.params) (levels : LevelsLawful l)
    (hm : l.mode = m.operating) (hh : l.holdOff = 0) : MonitorLawful l := ⟨params, levels, holdLawful_of_chosen hm hh⟩

theorem monitorLawful_initial : MonitorLawful LimitMonitor.initial :=
  monitorLawful_of_reset (m := .off) limitsInRange_defaults levelsLawful_initial rfl rfl

/-- The row of R117 that a boundary takes keeps the hold-off count lawful. -/
theorem limitBoundary_monitorLawful (n : Nat) {s : State} (h : MonitorLawful s.limit) :
    MonitorLawful (limitBoundary n s).limit := by
  obtain ⟨positive, bounded⟩ := h.params.shockHoldOff
  rcases limitBoundary_cases n s with ⟨m, hm, -, e⟩ | ⟨m, hm, -, e⟩ | ⟨hm, -, e⟩ | ⟨hm, -, -, e⟩ | ⟨hm, -, hh, e⟩ <;> rw [e]
  · exact ⟨h.params, h.levels, holdLawful_of_hold rfl positive bounded rfl rfl⟩
  · exact ⟨h.params, h.levels, holdLawful_of_chosen rfl (h.hold.of_chosen (hm ▸ m.operating_ne_shockHold))⟩
  · obtain ⟨-, -, saved, request⟩ := h.hold.of_hold hm
    exact ⟨h.params, h.levels, holdLawful_of_hold hm positive bounded saved request⟩
  · exact ⟨h.params, h.levels, holdLawful_of_chosen rfl rfl⟩
  · obtain ⟨-, high, saved, request⟩ := h.hold.of_hold hm
    exact ⟨h.params, h.levels, holdLawful_of_hold hm (show 1 ≤ s.limit.holdOff - 1 by omega)
      (show s.limit.holdOff - 1 ≤ 4096 by omega) saved request⟩

theorem exitShock_monitorLawful {s : State} (h : MonitorLawful s.limit) : MonitorLawful (exitShock s).limit :=
  ⟨h.params, h.levels, holdLawful_of_chosen rfl rfl⟩

/-- Other levels and another Mute Set, lawful together. -/
theorem MonitorLawful.withLevels {l k : LimitMonitor} (h : MonitorLawful l)
    (hk : k = { l with records := k.records, muteSet := k.muteSet }) (levels : LevelsLawful k) : MonitorLawful k where
  params := by rw [hk]; exact h.params
  levels := levels
  hold := by rw [hk]; exact h.hold

theorem MonitorLawful.swapLevels {l : LimitMonitor} (h : MonitorLawful l) : MonitorLawful (swapLevels l) :=
  h.withLevels (by simp only [Machine.swapLevels]) h.levels.swapLevels

theorem saturationResult_monitorLawful (t : Slot) (saturated : Bool) {s : State} (h : MonitorLawful s.limit) :
    MonitorLawful (saturationResult t saturated s).limit := by
  have ladder : LadderLawful (applyResult s.limit.params saturated s.limit.records[t]) :=
    (h.levels t).ladder.applyResult h.params.saturationThreshold_le saturated
  rcases saturationResult_limit_cases t saturated s with ⟨muted, e⟩ | ⟨still, e⟩ <;> rw [e]
  · have member : (addSlot s.limit.muteSet t).getLsbD t = true := by rw [getLsbD_addSlot, decide_eq_true rfl, Bool.or_true]
    have others : ∀ u : Slot, u ≠ t → (addSlot s.limit.muteSet t).getLsbD u = s.limit.muteSet.getLsbD u := fun u hu => by
      rw [getLsbD_addSlot, decide_eq_false hu, Bool.or_false]
    exact h.withLevels rfl (h.levels.withRecord ⟨ladder, iff_of_true muted member⟩ others)
  · exact h.withLevels rfl (h.levels.withRecord ⟨ladder, still.trans (h.levels t).muted⟩ fun _ _ => rfl)

/-! The Profile Store -/

/-- The stored Limit Parameters and those of a snapshot are in range (R129). -/
structure StoreInRange (p : ProfileStore) : Prop where
  image : ∀ im, p.image = some im → LimitsInRange im.params
  running : ∀ x, p.running = some x → LimitsInRange x.snapshot.params

/-- The end of a PERSIST leaves what is stored. -/
theorem StoreInRange.end {p q : ProfileStore} (h : StoreInRange p) (hi : q.image = p.image) (hr : q.running = none) :
    StoreInRange q where
  image im hq := h.image im (hi.symm.trans hq)
  running x hx := by simp [hr] at hx

theorem StoreInRange.endPersist {p : ProfileStore} (h : StoreInRange p) : StoreInRange (endPersist p) := by
  rw [endPersist_eq]
  split
  · exact h.end rfl rfl
  · exact h

theorem StoreInRange.goodImage {p : ProfileStore} (h : StoreInRange p) {im : ProfileImage} (hg : goodImage p = some im) :
    LimitsInRange im.params := h.image im (goodImage_eq_some.1 hg).2.1

theorem StoreInRange.persistBoundary {s : State} (h : StoreInRange s.profile) : StoreInRange (persistBoundary s).profile := by
  unfold Machine.persistBoundary
  split
  · exact h
  · next p hp =>
    split
    · exact h.end rfl rfl
    · refine ⟨h.image, fun x hx => ?_⟩
      obtain rfl := Option.some.inj hx
      exact h.running p hp

/-- A PERSIST stores its snapshot, or nothing new (R177). -/
theorem StoreInRange.finishPersist {s : State} (h : StoreInRange s.profile) {p : PersistRun} (hp : s.profile.running = some p)
    (o : ReadBack) : StoreInRange (finishPersist p o s).profile := by
  unfold Machine.finishPersist
  split
  · refine ⟨fun im hi => ?_, fun x hx => by cases hx⟩
    obtain rfl := Option.some.inj hi
    exact h.running p hp
  · exact h.end rfl rfl

end Sys2Proof.Machine
end

section
/-! PROOFS. Every step keeps muted targets and Mute Set in agreement and the limit state in range (R119, R122, R126, R129). -/

namespace Sys2Proof.Machine

/-! The part -/

/-- Limit Monitor and stored Limit Parameters are lawful. -/
def LimitStateLawful (s : State) : Prop := MonitorLawful s.limit ∧ StoreInRange s.profile

theorem limitStateLawful_iff (s : State) : LimitStateLawful s ↔ MutesLawful s ∧ LimitsLawful s :=
  ⟨fun ⟨⟨params, levels, hold⟩, ⟨image, running⟩⟩ =>
      ⟨fun t => (levels t).muted, params, image, running, fun t => (levels t).ladder, hold⟩,
    fun ⟨mutes, params, image, running, ladder, hold⟩ =>
      ⟨⟨params, fun t => ⟨ladder t, mutes t⟩, hold⟩, ⟨image, running⟩⟩⟩

namespace LimitStateLawful

variable {s t : State}

theorem congr (h : LimitStateLawful s) (hl : t.limit = s.limit) (hp : t.profile = s.profile) : LimitStateLawful t := by
  unfold LimitStateLawful
  rwa [hl, hp]

theorem withMonitor (h : LimitStateLawful s) (hl : MonitorLawful t.limit) (hp : t.profile = s.profile) :
    LimitStateLawful t := ⟨hl, hp ▸ h.2⟩

theorem withStore (h : LimitStateLawful s) (hl : t.limit = s.limit) (hp : StoreInRange t.profile) :
    LimitStateLawful t := ⟨hl ▸ h.1, hp⟩

end LimitStateLawful

/-! Commands -/

theorem editMutes_monitorLawful (m : ContextMode) (p : Vector Byte 8) {s : State} (h : MonitorLawful s.limit) :
    MonitorLawful (editMutes m p s).limit := by
  rw [editMutes, State.limit_setLimit]
  split
  · exact h.withLevels (by simp only [unmuteSlots]) (h.levels.unmuteSlots _)
  · exact h.withLevels (by simp only [muteSlots]) (h.levels.muteSlots _)

theorem writeMutes_limitStateLawful (r : Request) {s : State} (h : LimitStateLawful s) :
    LimitStateLawful (writeMutes r s).1 := by
  refine h.withMonitor ?_ (writeMutes_profile r s)
  unfold writeMutes configWrite
  split
  · exact h.1
  · exact editMutes_monitorLawful _ _ h.1

/-- A LIMITS write replaces a parameter by a value in its range, or nothing (R129). -/
theorem writeLimits_limitStateLawful (r : Request) {s : State} (h : LimitStateLawful s) :
    LimitStateLawful (writeLimits r s).1 := by
  refine h.withMonitor ?_ (writeLimits_profile r s)
  unfold writeLimits configWrite
  split
  · exact h.1
  · split
    · exact h.1
    · next v hv =>
      simp only [editLimits] at hv
      split at hv
      · next range =>
        obtain rfl := Option.some.inj hv
        exact ⟨h.1.params.set range, h.1.levels, h.1.hold⟩
      · simp at hv

theorem decideData_limitStateLawful (r : Request) {s : State} (h : LimitStateLawful s) :
    LimitStateLawful (decideData r s).1 := by
  have standby : ∀ x edit, LimitStateLawful (standbyWrite r x edit s).1 := fun x edit =>
    h.congr (standbyWrite_limit r x edit s) (standbyWrite_profile r x edit s)
  unfold decideData
  simp only []
  split
  · split
    · split <;> exact standby _ _
    · split <;> exact standby _ _
    · exact standby _ _
    · exact h.congr (writeSlotmap_limit r s) (writeSlotmap_profile r s)
    · exact h.congr (writeTargets_limit r s) (writeTargets_profile r s)
    · exact writeMutes_limitStateLawful r h
    · exact writeLimits_limitStateLawful r h
    · exact h.congr (writeAlertmap_limit r s) (writeAlertmap_profile r s)
    all_goals exact h
  · exact h

/-- A MODE writes the saved mode in SHOCK_HOLD and the request outside it (R116). -/
theorem decideMode_limitStateLawful (r : Request) {s : State} (h : LimitStateLawful s) :
    LimitStateLawful (decideMode r s).1 := by
  unfold decideMode
  split
  · exact h
  · split
    · exact h
    · split
      · next m hm =>
        obtain ⟨low, high, -, request⟩ := h.1.hold.of_hold hm
        exact ⟨⟨h.1.params, h.1.levels, holdLawful_of_hold hm low high rfl request⟩, h.2⟩
      · next m hm =>
        obtain hold | ⟨k, hk⟩ := s.limit.mode.hold_or_chosen
        · exact absurd hold hm
        · exact ⟨⟨h.1.params, h.1.levels, holdLawful_of_chosen hk (h.1.hold.of_chosen hm)⟩, h.2⟩

/-- A PERSIST takes the Limit Parameters as they stand (R177). -/
theorem decidePersist_limitStateLawful (r : Request) {s : State} (h : LimitStateLawful s) :
    LimitStateLawful (decidePersist r s).1 := by
  refine h.withStore (decidePersist_limit r s) ?_
  unfold decidePersist
  split
  · exact h.2
  · split
    · exact h.2
    · refine ⟨fun im hi => by simp at hi, fun x hx => ?_⟩
      obtain rfl := Option.some.inj hx
      exact h.1.params

theorem decideCommand_limitStateLawful (code : Byte) (r : Request) {s : State} (h : LimitStateLawful s) :
    LimitStateLawful (decideCommand code r s).1 := by
  have keeps : ∀ {t : State}, t.limit = s.limit → t.profile = s.profile → LimitStateLawful t := h.congr
  have status : LimitStateLawful (decideStatus s).1 := ⟨⟨h.1.params, h.1.levels, h.1.hold⟩, h.2⟩
  exact decideCommand_preserves LimitStateLawful code r s status (keeps (by simp) (by simp)) (keeps (by simp) (by simp))
    (keeps (by simp) (by simp)) (decideData_limitStateLawful r h) (keeps (by simp) (by simp)) (keeps (by simp) (by simp))
    (keeps (by simp) (by simp)) (keeps (by simp) (by simp)) (decideMode_limitStateLawful r h) (keeps (by simp) (by simp))
    (decidePersist_limitStateLawful r h) (keeps (by simp) (by simp)) h

/-! The frame boundary -/

theorem engineBoundary_monitorLawful {s : State} (h : MonitorLawful s.limit) : MonitorLawful (engineBoundary s).limit := by
  by_cases swap : s.banks.engine = .swapPending
  · unfold engineBoundary
    rw [swap]
    exact h.swapLevels
  · rwa [engineBoundary_limit_of_no_swap swap]

theorem boundaryIntake_monitorLawful (f : Frame) {s : State} (h : MonitorLawful s.limit) :
    MonitorLawful (boundaryIntake f s).limit := by
  unfold boundaryIntake
  exact limitBoundary_monitorLawful _ (by simpa using h)

/-- Of the reactions to a boundary the Limit Monitor's and the Bank Engine's change the limit state. -/
theorem frameBoundary_limitStateLawful (f : Frame) {s : State} (h : LimitStateLawful s) :
    LimitStateLawful (frameBoundary f s) := by
  have engine : LimitStateLawful (engineBoundary (boundaryIntake f s)) :=
    h.withMonitor (engineBoundary_monitorLawful (boundaryIntake_monitorLawful f h.1)) (by simp)
  unfold frameBoundary
  exact (engine.congr (by simp) (by simp)).withStore (persistBoundary_limit _)
    (StoreInRange.persistBoundary (by simpa using engine.2))

/-! Power and resets -/

theorem coldStart_limitStateLawful (u : StartUp) {s : State} (h : StoreInRange s.profile) :
    LimitStateLawful (coldStart u s) := by
  have stored := h.endPersist
  cases hg : goodImage (endPersist s.profile) with
  | some im =>
    rw [coldStart_of_good hg]
    exact ⟨monitorLawful_of_reset (stored.goodImage hg) levelsLawful_initial rfl rfl,
      stored.end rfl (endPersist_running s.profile)⟩
  | none =>
    rw [coldStart_of_none hg]
    exact ⟨monitorLawful_initial, stored.end rfl (endPersist_running s.profile)⟩

/-- A WARM reset leaves OFF or the start mode (R131, R181). -/
theorem warmActions_mode (k : ResetReason) (c : PortCondition) (s : State) :
    ∃ m : ChosenMode, (warmActions k c s).limit.mode = m.operating := by
  cases hf : s.profile.found with
  | true => exact ⟨s.startUp.startMode, by simp [warmActions, hf]⟩
  | false => exact ⟨.off, by simp [warmActions, hf, ChosenMode.operating]⟩

theorem warmActions_limitStateLawful (k : ResetReason) (c : PortCondition) {s : State} (h : LimitStateLawful s) :
    LimitStateLawful (warmActions k c s) := by
  obtain ⟨m, hm⟩ := warmActions_mode k c s
  exact ⟨monitorLawful_of_reset h.1.params (levelLawful_warmLevels s.limit.muteSet) hm rfl, h.2.endPersist⟩

theorem unpower_limitStateLawful {s : State} (h : StoreInRange s.profile) : LimitStateLawful (unpower s) :=
  ⟨monitorLawful_initial, h.endPersist.end rfl (endPersist_running s.profile)⟩

/-- The limit state changes by commands, resets and frame boundaries, and by the ends of self-timed work. -/
theorem limitStateLawful_loopInvariant : LoopInvariant LimitStateLawful where
  setPorts _ h := h.congr rfl rfl
  setIntake _ h := h.congr rfl rfl
  setCoupling _ h := h.congr rfl rfl
  setPool _ h := h.congr rfl rfl
  setMgmt _ h := h.congr rfl rfl
  setAlerts _ h := h.congr rfl rfl
  setCounters _ h := h.congr rfl rfl
  setCapture _ h := h.congr rfl rfl
  decide code r h := decideCommand_limitStateLawful code r h
  cold u h := coldStart_limitStateLawful u h.2
  warm k c h := warmActions_limitStateLawful k c h
  boundary f h := frameBoundary_limitStateLawful f h

theorem rstNFall_limitStateLawful {s t : State} (hs : LimitStateLawful s) (h : exec .rstNFall s = .next t) :
    LimitStateLawful t := by
  simp only [exec, execRstNFall] at h
  split at h <;> cases h
  · have ended := limitStateLawful_loopInvariant.endPassage hs
    exact ⟨ended.1, ended.2.endPersist⟩
  · exact hs

theorem rstNRise_limitStateLawful {x : Straps} {s t : State} (hs : LimitStateLawful s)
    (h : exec (.rstNRise x) s = .next t) : LimitStateLawful t := by
  simp only [exec, execRstNRise] at h
  split at h
  · cases h; exact hs
  · split at h <;> cases h
    · exact hs.congr rfl rfl
    · exact coldStart_limitStateLawful _ hs.2
    · exact warmActions_limitStateLawful _ _ (hs.congr rfl rfl)
    · exact warmActions_limitStateLawful _ _ (hs.congr rfl rfl)

theorem powerUp_limitStateLawful {x : Straps} {high : Bool} {s t : State} (hs : LimitStateLawful s)
    (h : exec (.powerUp x high) s = .next t) : LimitStateLawful t := by
  have off := unpower_limitStateLawful hs.2
  simp only [exec, execPowerUp] at h
  split at h <;> cases h
  · exact coldStart_limitStateLawful _ off.2
  · exact off.congr rfl rfl

/-! Ends of spans and of self-timed work -/

theorem completeTarget_limit (p : Pass) (s : State) :
    (completeTarget p s).limit =
      (saturationResult p.next (isSaturated (deratedValue s p.frame p.next p.work)) s).limit := by
  have judged : ∀ v, (judgedTarget v p s).limit = (saturationResult p.next (isSaturated v) s).limit := by
    intro v
    unfold judgedTarget saturationResult
    simp only [raiseIf_limit, State.limit_setLimit]
    split <;> rfl
  rw [completeTarget_eq, ← judged]
  split
  · exact completeItems_limit _
  · rfl

theorem targetCompletion_limitStateLawful {s t : State} (hs : LimitStateLawful s) (h : exec .targetCompletion s = .next t) :
    LimitStateLawful t := by
  simp only [exec, execTargetCompletion] at h
  split at h <;> rw [Host.Outcome.next.injEq] at h <;> subst h
  · refine hs.withMonitor ?_ (completeTarget_profile _ s)
    rw [completeTarget_limit]
    exact saturationResult_monitorLawful _ _ hs.1
  · exact hs

theorem persistEnd_limitStateLawful {o : ReadBack} {s t : State} (hs : LimitStateLawful s)
    (h : exec (.persistEnd o) s = .next t) : LimitStateLawful t := by
  simp only [exec, execPersistEnd] at h
  split at h <;> cases h
  · next p hp => exact hs.withStore (finishPersist_limit p o s) (hs.2.finishPersist hp o)
  · exact hs

theorem event_limitStateLawful (i : Instr) (hi : IsEvent i) (s t : State) (hs : LimitStateLawful s)
    (h : exec i s = .next t) : LimitStateLawful t := by
  have loop := limitStateLawful_loopInvariant
  cases hi with
  | outboundFrame f b m => exact loop.outboundFrame hs h
  | returnFrame f p => exact loop.returnFrame hs h
  | lineIdle => exact loop.lineIdle hs h
  | lockLoss => exact loop.lockLoss hs h
  | settleEnd u =>
    cases h
    split <;> exact hs.congr rfl rfl
  | targetCompletion => exact targetCompletion_limitStateLawful hs h
  | shockExit =>
    cases h
    split
    · exact hs.withMonitor (exitShock_monitorLawful hs.1) (exitShock_profile s)
    · exact hs
  | lockExpiry d =>
    cases h
    split <;> exact hs.congr rfl rfl
  | bankSwap =>
    cases h
    split
    · exact (hs.congr (overrunPass_limit s) (overrunPass_profile s)).withMonitor
        (MonitorLawful.swapLevels (by rw [overrunPass_limit]; exact hs.1)) rfl
    · exact hs
  | resyncCopyEnd =>
    cases h
    split
    · exact hs.congr (copyStep_limit s) (copyStep_profile s)
    · exact hs
  | captureComplete =>
    cases h
    split
    · exact hs.congr (completeItems_limit s) (completeItems_profile s)
    · exact hs
  | persistEnd o => exact persistEnd_limitStateLawful hs h
  | persistTimeLimit =>
    cases h
    split
    · exact hs.withStore (persistBoundary_limit s) (StoreInRange.persistBoundary hs.2)
    · exact hs
  | resetFull r => cases h; exact loop.takeReset _ r hs
  | resetWarm r => cases h; exact loop.takeReset _ r hs
  | powerUp x high => exact powerUp_limitStateLawful hs h
  | profileLoadEnd =>
    simp only [exec, execProfileLoadEnd] at h
    split at h <;> cases h <;> exact hs.congr rfl rfl
  | rstNFall => exact rstNFall_limitStateLawful hs h
  | rstNRise x => exact rstNRise_limitStateLawful hs h
  | outboundCellArrival => exact loop.outboundCellArrival hs h
  | lossOfPower => cases h; exact unpower_limitStateLawful hs.2

theorem step_limitStateLawful (s t : State) (hs : LimitStateLawful s) (h : step s = .next t) : LimitStateLawful t :=
  step_preserves LimitStateLawful (fun _ _ hs => hs.congr rfl rfl)
    (fun s hs => hs.congr (passTick_limit s) (passTick_profile s))
    (fun sent decided r _ hs => limitStateLawful_loopInvariant.takeCommand sent decided r hs) event_limitStateLawful s t hs h

/-- Settles O57: every command and every event keeps the Limit Monitor and the stored Limit Parameters lawful. -/
theorem limitsStayLawful : Obligations.LimitsStayLawful := fun s t hm hl h =>
  (limitStateLawful_iff t).1 (step_limitStateLawful s t ((limitStateLawful_iff s).2 ⟨hm, hl⟩) h)

end Sys2Proof.Machine
end

section
/-! PROOFS. What a saturation result makes of the limit record, the Mute Set and the alerts (R120, R121). -/

namespace Sys2Proof.Machine

/-! A completion, seen from the Limit Monitor -/

/-- Behind the saturation result a completion raises no other source than CAPTURE_DONE. -/
theorem completeTarget_raisesOnly_behind_result (p : Pass) (s : State) :
    RaisesOnly [13] (saturationResult p.next (isSaturated (deratedValue s p.frame p.next p.work)) s) (completeTarget p s) := by
  have judged : ∀ v, (judgedTarget v p s).alerts = (saturationResult p.next (isSaturated v) s).alerts := by
    intro v
    have raised : ∀ b a (u w : State), u.alerts = w.alerts → (raiseIf b a u).alerts = (raiseIf b a w).alerts := by
      intro b a u w h
      cases b
      · exact h
      · rw [raiseIf_true, raiseIf_true, raiseAlert_eq, raiseAlert_eq, h]
    unfold judgedTarget
    split <;> exact raised _ _ _ _ (raised _ _ _ _ rfl)
  rw [completeTarget_eq]
  split
  · exact RaisesOnly.trans (l := []) (.of_eq (judged _)) (completeItems_raisesOnly _)
  · exact .of_eq (judged _)

theorem completeItems_alertMap (s : State) : (completeItems s).alerts.map = s.alerts.map := (completeItems_keeps s).map

theorem completeTarget_alertMap (p : Pass) (s : State) : (completeTarget p s).alerts.map = s.alerts.map := by
  have judged : ∀ v, (judgedTarget v p s).alerts.map = s.alerts.map := by
    intro v
    unfold judgedTarget saturationResult
    simp only [raiseIf_map, State.alerts_setLimit]
    split <;> rfl
  rw [completeTarget_eq]
  split
  · rw [completeItems_alertMap, judged]
  · exact judged _

/-- The sources pending behind a raise, CAPTURE_DONE apart. -/
theorem pending_of_raised {a : AlertSource} {s t u : State} (h : RaisesOnly [13] (raiseAlert a u) t)
    (hu : u.alerts = s.alerts) (n : Fin 16) (hn : n ≠ 13) :
    t.alerts.pending.getLsbD n = true ↔ s.alerts.pending.getLsbD n = true ∨ n = sourceNumber a := by
  rw [h n (by simpa using hn), pending_raiseAlert, hu]

theorem pending_of_not_raised {s t u : State} (h : RaisesOnly [13] u t) (hu : u.alerts = s.alerts) (n : Fin 16)
    (hn : n ≠ 13) : t.alerts.pending.getLsbD n = s.alerts.pending.getLsbD n := by
  rw [Bool.eq_iff_iff, h n (by simpa using hn), hu]

/-! The outcomes of a completion -/

section
variable {p : Pass} {s : State} {b : Bool} {x : LimitRecord}

/-- A completion without a step down writes the record and raises nothing. -/
theorem completeTarget_of_no_step (hb : isSaturated (deratedValue s p.frame p.next p.work) = b)
    (hx : applyResult s.limit.params b s.limit.records[p.next] = x)
    (h : b = false ∨ x.level = s.limit.records[p.next].level) :
    ((completeTarget p s).limit.records[p.next] = x ∧ (completeTarget p s).limit.muteSet = s.limit.muteSet) ∧
      ∀ n : Fin 16, n ≠ 13 → (completeTarget p s).alerts.pending.getLsbD n = s.alerts.pending.getLsbD n := by
  have limit := completeTarget_limit p s
  have raises := completeTarget_raisesOnly_behind_result p s
  subst hx
  rw [hb, saturationResult_of_no_step h] at limit raises
  rw [limit]
  exact ⟨⟨withRecord_get _ _ _ _, rfl⟩, pending_of_not_raised raises rfl⟩

/-- A completion with a step down to another level than MUTED raises TARGET_DERATED. -/
theorem completeTarget_of_derated (hb : isSaturated (deratedValue s p.frame p.next p.work) = true)
    (hx : applyResult s.limit.params true s.limit.records[p.next] = x) (hd : x.level ≠ s.limit.records[p.next].level)
    (hm : x.level ≠ .muted) :
    ((completeTarget p s).limit.records[p.next] = x ∧ (completeTarget p s).limit.muteSet = s.limit.muteSet) ∧
      ∀ n : Fin 16, n ≠ 13 → ((completeTarget p s).alerts.pending.getLsbD n = true ↔
        s.alerts.pending.getLsbD n = true ∨ n = 9) := by
  have limit := completeTarget_limit p s
  have raises := completeTarget_raisesOnly_behind_result p s
  subst hx
  rw [hb, saturationResult_of_derated hd hm] at limit raises
  rw [limit]
  exact ⟨⟨withRecord_get _ _ _ _, rfl⟩, pending_of_raised raises rfl⟩

/-- A completion with the step down to MUTED raises TARGET_MUTED, and the target joins the Mute Set. -/
theorem completeTarget_of_muted (hb : isSaturated (deratedValue s p.frame p.next p.work) = true)
    (hx : applyResult s.limit.params true s.limit.records[p.next] = x) (hd : s.limit.records[p.next].level ≠ .muted)
    (hm : x.level = .muted) :
    (completeTarget p s).limit.records[p.next] = x ∧
      (completeTarget p s).limit.muteSet = s.limit.muteSet ||| (1 <<< p.next.val) ∧
      ∀ n : Fin 16, n ≠ 13 → ((completeTarget p s).alerts.pending.getLsbD n = true ↔
        s.alerts.pending.getLsbD n = true ∨ n = 3) := by
  have limit := completeTarget_limit p s
  have raises := completeTarget_raisesOnly_behind_result p s
  subst hx
  rw [hb, saturationResult_of_muted hd hm] at limit raises
  rw [limit]
  exact ⟨withRecord_get _ _ _ _, rfl, pending_of_raised raises rfl⟩

end

/-- A completion writes the record of its target and the Mute Set, and no more of the Limit Monitor. -/
theorem completeTarget_limit_eq (p : Pass) (s : State) :
    ∃ x m, (completeTarget p s).limit = withRecord s.limit p.next x m := by
  rw [completeTarget_limit]
  obtain ⟨-, e⟩ | ⟨-, e⟩ := saturationResult_limit_cases p.next (isSaturated (deratedValue s p.frame p.next p.work)) s
  · exact ⟨_, _, e⟩
  · exact ⟨_, _, e⟩

theorem completeTarget_limit_frame (p : Pass) (s : State) :
    (∀ u : Slot, u ≠ p.next → (completeTarget p s).limit.records[u] = s.limit.records[u]) ∧
    (completeTarget p s).limit =
      { s.limit with records := (completeTarget p s).limit.records, muteSet := (completeTarget p s).limit.muteSet } := by
  obtain ⟨x, m, e⟩ := completeTarget_limit_eq p s
  rw [e]
  exact ⟨fun u hu => withRecord_get_ne hu _ _ _, rfl⟩

/-- Settles O30: the rows of R120 and R121, each by the equation of the ladder for it. -/
theorem saturationLadder : Obligations.SaturationLadder := by
  intro p s hp v outside r threshold period
  obtain ⟨others, frame⟩ := completeTarget_limit_frame p s
  have sat : outside → isSaturated v = true := (isSaturated_iff v).2
  have unsat : ¬ outside → isSaturated v = false := fun h => Bool.eq_false_iff.2 fun hv => h ((isSaturated_iff v).1 hv)
  have stepped : r.level ≠ .muted → threshold ≤ r.saturation + 4 →
      applyResult s.limit.params true r = { level := levelDown r.level, saturation := 0, recovery := 0 } := fun hl ht => by
    rw [applyResult_of_saturated hl, if_pos ht]
  refine ⟨completeTarget p s, exec_targetCompletion_running hp, others, frame, completeTarget_alertMap p s,
    fun hl => ?_, fun hl ho ht => ?_, fun hl ho ht => ?_, fun hl ho ht => ?_, fun hl ho ht => ?_, fun hl ho => ?_,
    fun hl ho hr => ?_, fun hl ho hr => ?_, fun hl ho hr => ?_⟩
  · exact completeTarget_of_no_step rfl (applyResult_of_muted hl _) (.inr rfl)
  · exact completeTarget_of_no_step (sat ho) (by rw [applyResult_of_saturated hl, if_neg (Nat.not_le.2 ht)]) (.inr rfl)
  · have step := stepped (by rw [hl]; decide) ht
    rw [hl] at step
    exact completeTarget_of_derated (sat ho) step (hl ▸ nofun) nofun
  · have step := stepped (by rw [hl]; decide) ht
    rw [hl] at step
    exact completeTarget_of_derated (sat ho) step (hl ▸ nofun) nofun
  · have active : r.level ≠ .muted := by rw [hl]; decide
    have step := stepped active ht
    rw [hl] at step
    exact completeTarget_of_muted (sat ho) step active rfl
  · exact completeTarget_of_no_step (unsat ho) (by rw [applyResult_of_normal hl, ← hl]) (.inl rfl)
  · exact completeTarget_of_no_step (unsat ho) (by rw [applyResult_of_derated hl, if_neg (Nat.not_le.2 hr)]) (.inl rfl)
  · exact completeTarget_of_no_step (unsat ho) (by rw [applyResult_of_derated (.inl hl), if_pos hr, hl]; rfl) (.inl rfl)
  · exact completeTarget_of_no_step (unsat ho) (by rw [applyResult_of_derated (.inr hl), if_pos hr, hl]; rfl) (.inl rfl)

end Sys2Proof.Machine
end

section
/-! PROOFS. The resulting mode of a frame boundary, with shock entry, hold-off and exit (R117, R124 to R126). -/

namespace Sys2Proof.Machine

/-! The shock count -/

/-- The part with its slots evaluated and their entries given, as the Limit Monitor finds it at a boundary (log 6). -/
def shockStart (f : Frame) (s : State) : State := giveEntries f (overrunPass s).slots (evaluateSlots f (overrunPass s))

theorem boundaryIntake_eq (f : Frame) (s : State) :
    boundaryIntake f s = limitBoundary (shockCount f (shockStart f s)) (shockStart f s) := rfl

theorem shockStart_limit (f : Frame) (s : State) : (shockStart f s).limit = s.limit := by simp [shockStart]

theorem shockStart_slots (f : Frame) (s : State) : (shockStart f s).slots = (frameBoundary f s).slots := by
  rw [shockStart, giveEntries_slots, evaluateSlots_slots, overrunPass_slots, frameBoundary_slots]

theorem shockStart_shocks (f : Frame) (s : State) :
    (shockStart f s).counters[(9 : Fin 10)] = s.counters[(9 : Fin 10)] := by
  unfold shockStart giveEntries
  simp only []
  rw [bump_counter_ne (by decide), State.counters_setIntake, evaluateSlots_counters, overrunPass_counter (by decide)]

theorem shockStart_raisesOnly (f : Frame) (s : State) : RaisesOnly [13, 12] s (shockStart f s) := by
  have given : RaisesOnly [] (evaluateSlots f (overrunPass s)) (shockStart f s) := .of_eq (giveEntries_alerts f _ _)
  exact ((overrunPass_raisesOnly s).trans (evaluateSlots_raisesOnly f _)).trans given

/-- The count of R46 over the slots that the boundary leaves. -/
theorem shockCount_eq (f : Frame) (s : State) : shockCount f s = shocksOf f s.slots s.limit.params.shockThreshold := by
  unfold shockCount shocksOf
  congr 1
  funext t
  cases boundaryEntry f s.slots.map s.slots.records[t] t <;> rfl

theorem reachesQuorum_iff (l : LimitMonitor) (n : Nat) : reachesQuorum l n = true ↔ l.params.shockQuorum.toNat ≤ n := by
  simp [reachesQuorum]

/-! The sources of a shock -/

/-- A boundary raises SHOCK_ENTERED when it brings SHOCK_HOLD about (R124). -/
theorem limitBoundary_shockEntered (n : Nat) (s : State) :
    (limitBoundary n s).alerts.pending.getLsbD (1 : Fin 16) = true ↔
      s.alerts.pending.getLsbD (1 : Fin 16) = true ∨
        s.limit.mode ≠ .shockHold ∧ (limitBoundary n s).limit.mode = .shockHold := by
  rcases limitBoundary_cases n s with ⟨m, hm, -, e⟩ | ⟨m, hm, -, e⟩ | ⟨hm, -, e⟩ | ⟨hm, -, -, e⟩ | ⟨hm, -, -, e⟩ <;> rw [e]
  · refine (pending_raiseAlert .shockEntered _ 1).trans (or_congr_right ?_)
    exact iff_of_true rfl ⟨hm ▸ m.operating_ne_shockHold, rfl⟩
  · exact (or_iff_left fun h => ChosenMode.operating_ne_shockHold _ h.2).symm
  · exact (or_iff_left fun h => h.1 hm).symm
  · refine (pending_raiseAlert .shockCleared _ 1).trans (or_congr_right ?_)
    exact iff_of_false (by decide) fun h => h.1 hm
  · exact (or_iff_left fun h => h.1 hm).symm

/-- A boundary raises SHOCK_CLEARED when it ends SHOCK_HOLD (R126). -/
theorem limitBoundary_shockCleared (n : Nat) (s : State) :
    (limitBoundary n s).alerts.pending.getLsbD (15 : Fin 16) = true ↔
      s.alerts.pending.getLsbD (15 : Fin 16) = true ∨
        s.limit.mode = .shockHold ∧ (limitBoundary n s).limit.mode ≠ .shockHold := by
  rcases limitBoundary_cases n s with ⟨m, hm, -, e⟩ | ⟨m, hm, -, e⟩ | ⟨hm, -, e⟩ | ⟨hm, -, -, e⟩ | ⟨hm, -, -, e⟩ <;> rw [e]
  · refine (pending_raiseAlert .shockEntered _ 15).trans (or_congr_right ?_)
    exact iff_of_false (by decide) fun h => h.2 rfl
  · exact (or_iff_left fun h => m.operating_ne_shockHold (hm.symm.trans h.1)).symm
  · exact (or_iff_left fun h => h.2 hm).symm
  · refine (pending_raiseAlert .shockCleared _ 15).trans (or_congr_right ?_)
    exact iff_of_true rfl ⟨hm, ChosenMode.operating_ne_shockHold _⟩
  · exact (or_iff_left fun h => h.2 hm).symm

/-- Behind the Limit Monitor's reaction a boundary raises no source of a shock. -/
theorem frameBoundary_raisesOnly_behind_limit (f : Frame) (s : State) :
    RaisesOnly [4, 5, 11, 8, 13, 6] (boundaryIntake f s) (frameBoundary f s) := by
  have started : ∀ u, RaisesOnly [] u (startPass f.number u) := fun u => .of_eq (startPass_alerts f.number u)
  unfold frameBoundary
  exact (((((engineBoundary_raisesOnly _).trans (pulseBoundary_raisesOnly _ _ _)).trans (started _)).trans
    (leaseBoundary_raisesOnly _)).trans (captureBoundary_raisesOnly _ _ _ _)).trans (persistBoundary_raisesOnly _)

theorem frameBoundary_shockEntered (f : Frame) (s : State) :
    (frameBoundary f s).alerts.pending.getLsbD (1 : Fin 16) = true ↔
      s.alerts.pending.getLsbD (1 : Fin 16) = true ∨
        s.limit.mode ≠ .shockHold ∧ (frameBoundary f s).limit.mode = .shockHold := by
  rw [frameBoundary_raisesOnly_behind_limit f s 1 (by decide), frameBoundary_mode, boundaryIntake_eq,
    limitBoundary_shockEntered, shockStart_limit, shockStart_raisesOnly f s 1 (by decide)]

theorem frameBoundary_shockCleared (f : Frame) (s : State) :
    (frameBoundary f s).alerts.pending.getLsbD (15 : Fin 16) = true ↔
      s.alerts.pending.getLsbD (15 : Fin 16) = true ∨
        s.limit.mode = .shockHold ∧ (frameBoundary f s).limit.mode ≠ .shockHold := by
  rw [frameBoundary_raisesOnly_behind_limit f s 15 (by decide), frameBoundary_mode, boundaryIntake_eq,
    limitBoundary_shockCleared, shockStart_limit, shockStart_raisesOnly f s 15 (by decide)]

/-! The table of R117 -/

/-- Behind the resulting mode a boundary changes limit levels alone (R123). -/
theorem frameBoundary_limit (f : Frame) (s : State) :
    (frameBoundary f s).limit = { (boundaryIntake f s).limit with records := (frameBoundary f s).limit.records } := by
  have engine : ∀ u : State, (engineBoundary u).limit = { u.limit with records := (engineBoundary u).limit.records } := by
    intro u
    by_cases swap : u.banks.engine = .swapPending
    · unfold engineBoundary
      rw [swap]
      simp only [swapBanks, State.limit_setLimit, swapLevels]
    · rw [engineBoundary_limit_of_no_swap swap]
  have behind : (frameBoundary f s).limit = (engineBoundary (boundaryIntake f s)).limit := by
    simp only [frameBoundary, persistBoundary_limit, captureBoundary_limit, leaseBoundary_limit, startPass_limit,
      pulseBoundary_limit]
  rw [behind]
  exact engine _

/-- The table of R117: what a boundary with shock count n makes of a Limit Monitor l and a SHOCKS counter c. -/
structure FormsMode (n : Nat) (l : LimitMonitor) (c : Word) (k : LimitMonitor) (d : Word) : Prop where
  chosen : ∀ m : ChosenMode, l.mode = m.operating → n < l.params.shockQuorum.toNat →
    k.mode = (l.request.getD m).operating ∧ k.request = none ∧ k.saved = l.saved ∧ k.holdOff = l.holdOff ∧
    k.shockSeen = l.shockSeen ∧ d = c
  entry : ∀ m : ChosenMode, l.mode = m.operating → l.params.shockQuorum.toNat ≤ n →
    k.mode = .shockHold ∧ k.request = none ∧ k.saved = some (l.request.getD m) ∧
    k.holdOff = l.params.shockHoldOff.toNat ∧ k.shockSeen = true ∧ d = countUp c 1
  held : l.mode = .shockHold → k.saved = l.saved ∧ k.request = l.request ∧ k.shockSeen = l.shockSeen ∧ d = c
  renewed : l.mode = .shockHold → l.params.shockQuorum.toNat ≤ n →
    k.mode = .shockHold ∧ k.holdOff = l.params.shockHoldOff.toNat
  counted : l.mode = .shockHold → n < l.params.shockQuorum.toNat → 1 < l.holdOff →
    k.mode = .shockHold ∧ k.holdOff = l.holdOff - 1
  exit : ∀ m : ChosenMode, l.mode = .shockHold → n < l.params.shockQuorum.toNat → l.holdOff = 1 → l.saved = some m →
    k.mode = m.operating ∧ k.holdOff = 0

/-- The table does not look at the limit records. -/
theorem FormsMode.withRecords {n : Nat} {l k : LimitMonitor} {c d : Word} (h : FormsMode n l c k d)
    (x : Vector LimitRecord 64) : FormsMode n l c { k with records := x } d :=
  ⟨h.chosen, h.entry, h.held, h.renewed, h.counted, h.exit⟩

/-- The row of R117 that applies is the one the Limit Monitor takes. -/
theorem limitBoundary_formsMode (n : Nat) (s : State) :
    FormsMode n s.limit s.counters[(9 : Fin 10)] (limitBoundary n s).limit (limitBoundary n s).counters[(9 : Fin 10)] := by
  have below : n < s.limit.params.shockQuorum.toNat → ¬ reachesQuorum s.limit n = true := fun h hq =>
    absurd ((reachesQuorum_iff _ _).1 hq) (Nat.not_le.2 h)
  refine ⟨fun m hm hn => ?_, fun m hm hn => ?_, fun hm => ?_, fun hm hn => ?_, fun hm hn hh => ?_, fun m hm hn hh hs => ?_⟩
  · rw [limitBoundary_of_chosen hm, if_neg (below hn)]
    exact ⟨rfl, rfl, rfl, rfl, rfl, rfl⟩
  · rw [limitBoundary_of_chosen hm, if_pos ((reachesQuorum_iff _ _).2 hn)]
    exact ⟨rfl, rfl, rfl, rfl, rfl, bump_counter .shocks 1 _⟩
  · rw [limitBoundary_of_hold hm]
    split
    · exact ⟨rfl, rfl, rfl, rfl⟩
    · split <;> exact ⟨rfl, rfl, rfl, rfl⟩
  · rw [limitBoundary_of_hold hm, if_pos ((reachesQuorum_iff _ _).2 hn)]
    exact ⟨hm, rfl⟩
  · rw [limitBoundary_of_hold hm, if_neg (below hn), if_neg (Nat.not_le.2 hh)]
    exact ⟨hm, rfl⟩
  · rw [limitBoundary_of_hold hm, if_neg (below hn), if_pos hh.le, exitShock_eq hs]
    exact ⟨rfl, rfl⟩

theorem frameBoundary_formsMode (f : Frame) (s : State) :
    FormsMode (shocksOf f (frameBoundary f s).slots s.limit.params.shockThreshold) s.limit s.counters[(9 : Fin 10)]
      (frameBoundary f s).limit (frameBoundary f s).counters[(9 : Fin 10)] := by
  have formed := limitBoundary_formsMode (shockCount f (shockStart f s)) (shockStart f s)
  rw [← boundaryIntake_eq, shockCount_eq, shockStart_slots, shockStart_limit, shockStart_shocks] at formed
  rw [frameBoundary_limit, frameBoundary_counter (by decide)]
  exact formed.withRecords _

/-- Settles O18. -/
theorem resultingModeIsFormed : Obligations.ResultingModeIsFormed := by
  intro f s hm
  have keeps := matchedReturn_keeps f s
  have entered := frameBoundary_shockEntered f (boundaryStart f s)
  have cleared := frameBoundary_shockCleared f (boundaryStart f s)
  have formed := frameBoundary_formsMode f (boundaryStart f s)
  refine ⟨matchedReturn f s, exec_returnFrame_matching f s hm, ?_⟩
  rw [matchedReturn_eq] at keeps ⊢
  generalize frameBoundary f (boundaryStart f s) = t at keeps entered cleared formed ⊢
  obtain ⟨chosen, entry, held, renewed, counted, exit⟩ := formed
  refine ⟨keeps.params, entered, cleared, chosen, entry, fun hold hn => ?_, fun hold hn hh => ?_, fun m hold hn hh hs => ?_⟩
  · obtain ⟨mode, holdOff⟩ := renewed hold hn
    exact ⟨mode, holdOff, held hold⟩
  · obtain ⟨mode, holdOff⟩ := counted hold hn hh
    exact ⟨mode, holdOff, held hold⟩
  · obtain ⟨mode, holdOff⟩ := exit m hold hn hh hs
    exact ⟨mode, holdOff, held hold⟩

end Sys2Proof.Machine
end

section
/-! PROOFS. STATUS and MODE (R116, R127, R154, R162). -/

namespace Sys2Proof.Machine

/-! MODE -/

theorem Taken.limit {r : Request} {s u : State} (ht : Taken r s u) : u.limit = s.limit := by
  obtain ⟨-, -, rfl⟩ := ht
  rfl

theorem Taken.alerts {r : Request} {s u : State} (ht : Taken r s u) : u.alerts = s.alerts := by
  obtain ⟨-, -, rfl⟩ := ht
  rfl

theorem Taken.startUp {r : Request} {s u : State} (ht : Taken r s u) : u.startUp = s.startUp := by
  obtain ⟨-, -, rfl⟩ := ht
  rfl

/-- A value above 2 names no mode a manager may choose. -/
theorem chosenOfCode_none {b : Byte} (h : 2 < b.toNat) : chosenOfCode b = none := by
  unfold chosenOfCode
  split
  case h_4 => rfl
  all_goals omega

section
variable {r : Request} {u : State}

theorem decideMode_of_not_holder (hh : holds r .config u = false) : decideMode r u = unchanged .notHolder u := by
  simp [decideMode, hh]

theorem decideMode_of_bad_value (hh : holds r .config u = true) (hv : chosenOfCode r.payload[0] = none) :
    decideMode r u = unchanged .badValue u := by
  simp [decideMode, hh, hv]

theorem decideMode_request (hh : holds r .config u = true) {m : ChosenMode} (hv : chosenOfCode r.payload[0] = some m)
    (hm : u.limit.mode ≠ .shockHold) :
    decideMode r u = (u.setLimit { u.limit with request := some m }, plainReply .ok) := by
  simp [decideMode, hh, hv, hm]

theorem decideMode_saved (hh : holds r .config u = true) {m : ChosenMode} (hv : chosenOfCode r.payload[0] = some m)
    (hm : u.limit.mode = .shockHold) :
    decideMode r u = (u.setLimit { u.limit with saved := some m }, plainReply .ok) := by
  simp [decideMode, hh, hv, hm]

end

/-- Settles O38: the checks of MODE in their order, and the mode it writes behind them. -/
theorem modeIsDecided : Obligations.ModeIsDecided := by
  intro r s u ht
  rw [← ht.limit]
  refine ⟨fun hh => answered_of_decision ht rfl (decideMode_of_not_holder (ht.not_holds hh)),
    fun hh hv => answered_of_decision ht rfl (decideMode_of_bad_value (ht.holds hh) (chosenOfCode_none hv)),
    fun m hh hv => ?_⟩
  have named : chosenOfCode r.payload[0] = some m := by
    rw [hv]
    cases m <;> rfl
  exact ⟨fun hm => answered_of_decision ht rfl (decideMode_request (ht.holds hh) named hm),
    fun hm => answered_of_decision ht rfl (decideMode_saved (ht.holds hh) named hm)⟩

/-! STATUS -/

/-- Byte 0 of the STATUS payload (09 Table 9.10). -/
theorem modeByte_fields (bank : BitVec 1) (seen : Bool) (saved request mode : BitVec 2) :
    let b : Byte := bank ++ BitVec.ofBool seen ++ saved ++ request ++ mode
    b.extractLsb' 0 2 = mode ∧ b.extractLsb' 2 2 = request ∧ b.extractLsb' 4 2 = saved ∧ b.getLsbD 6 = seen ∧
      b.extractLsb' 7 1 = bank := by
  revert bank seen saved request mode
  decide

/-- Byte 3 of the STATUS payload. -/
theorem engineByte_fields (running : Bool) (reason operation : BitVec 2) (condition : BitVec 1) (engine : BitVec 2) :
    let b : Byte := BitVec.ofBool running ++ reason ++ operation ++ condition ++ engine
    b.extractLsb' 0 2 = engine ∧ b.extractLsb' 2 1 = condition ∧ b.extractLsb' 3 2 = operation ∧
      b.extractLsb' 5 2 = reason ∧ b.getLsbD 7 = running := by
  revert running reason operation condition engine
  decide

/-- Byte 5 of the STATUS payload while there is a rejection record. -/
theorem rejectionByte_fields (x : Rejection) :
    (rejectionByte (some x)).extractLsb' 0 6 = BitVec.ofNat 6 x.row.val ∧
    (rejectionByte (some x)).extractLsb' 6 2 =
      match x.reason with | .undefinedKernel => 1 | .badEntry => 2 | .unstable => 3 :=
  ⟨BitVec.extractLsb'_append_eq_right, BitVec.extractLsb'_append_eq_left⟩

/-- The middle of three fields. -/
theorem extractLsb'_append_middle {k n m : Nat} (z : BitVec k) (x : BitVec n) (y : BitVec m) :
    (z ++ x ++ y).extractLsb' m n = x := by
  ext i hi
  simp [BitVec.getLsbD_append, hi]

/-- Bytes 6 and 7 of the STATUS payload. -/
theorem holdOffWord_fields (condition : BitVec 2) (count : BitVec 13) :
    let w := (0 : BitVec 1) ++ condition ++ count
    w.extractLsb' 0 13 = count ∧ w.extractLsb' 13 2 = condition :=
  ⟨BitVec.extractLsb'_append_eq_right, extractLsb'_append_middle 0 condition count⟩

/-- Settles O34: the payload byte by byte. -/
theorem statusReports : Obligations.StatusReports := by
  intro r s u ht
  rw [← ht.limit, ← ht.banks, ← ht.profile, ← ht.startUp]
  obtain ⟨mode, request, saved, seen, live⟩ := modeByte_fields (bankCode u.banks.liveId) u.limit.shockSeen
    (chosenCode u.limit.saved) (chosenCode u.limit.request) (operatingCode u.limit.mode)
  obtain ⟨engine, condition, operation, reason, running⟩ := engineByte_fields u.profile.running.isSome
    (reasonCode u.startUp.reason) (operationCode u.banks.operation) (standbyCode u.banks.standbyCondition)
    (engineCode u.banks.engine)
  obtain ⟨count, profile⟩ := holdOffWord_fields (profileCode u.profile.condition) (BitVec.ofNat 13 u.limit.holdOff)
  have word : (statusPayload u)[6] ++ (statusPayload u)[7] =
      (0 : BitVec 1) ++ profileCode u.profile.condition ++ BitVec.ofNat 13 u.limit.holdOff := hiByte_append_loByte _
  have rejected : (statusPayload u)[5] = rejectionByte u.banks.rejection := rfl
  refine ⟨statusPayload u, answered_of_decision ht rfl rfl, mode, request, saved, seen, live,
    hiByte_append_loByte u.banks.generation, engine, condition, operation, reason, running, rfl, fun hn => ?_, fun x hx => ?_,
    (congrArg (BitVec.extractLsb' 0 13) word).trans count, (congrArg (BitVec.extractLsb' 13 2) word).trans profile⟩
  · exact rejected.trans (by rw [hn]; rfl)
  · rw [rejected, hx]
    exact rejectionByte_fields x

end Sys2Proof.Machine
end

section
/-! PROOFS. DATA and READ on MUTES, LIMITS and ALERTMAP (R122, R129, R165). -/

namespace Sys2Proof.Machine

/-! MUTES (R122) -/

section
variable {operand : SlotSet} {l : LimitMonitor} {t : Slot}

/-- In SET mode a slot that joins the Mute Set is MUTED with nothing counted. -/
theorem muteSlots_of_joins (ho : operand.getLsbD t = true) (hm : l.muteSet.getLsbD t = false) :
    (muteSlots operand l).records[t] = mutedRecord := by
  simp only [muteSlots, Fin.getElem_fin, Vector.getElem_ofFn, ho, hm, Bool.not_false, Bool.and_self, if_true]

theorem muteSlots_of_rest (h : operand.getLsbD t = false ∨ l.muteSet.getLsbD t = true) :
    (muteSlots operand l).records[t] = l.records[t] := by
  have rest : (operand.getLsbD t && !l.muteSet.getLsbD t) = false := by
    rcases h with h | h
    · rw [h, Bool.false_and]
    · rw [h, Bool.not_true, Bool.and_false]
  simp only [muteSlots, Fin.getElem_fin, Vector.getElem_ofFn, rest, Bool.false_eq_true, if_false]

/-- In CLEAR mode a slot that leaves the Mute Set is NORMAL with nothing counted. -/
theorem unmuteSlots_of_leaves (ho : operand.getLsbD t = true) (hm : l.muteSet.getLsbD t = true) :
    (unmuteSlots operand l).records[t] = LimitRecord.initial := by
  simp only [unmuteSlots, Fin.getElem_fin, Vector.getElem_ofFn, ho, hm, Bool.and_self, if_true]

theorem unmuteSlots_of_rest (h : operand.getLsbD t = false ∨ l.muteSet.getLsbD t = false) :
    (unmuteSlots operand l).records[t] = l.records[t] := by
  have rest : (operand.getLsbD t && l.muteSet.getLsbD t) = false := Bool.and_eq_false_iff.2 h
  simp only [unmuteSlots, Fin.getElem_fin, Vector.getElem_ofFn, rest, Bool.false_eq_true, if_false]

end

theorem getLsbD_muteSlots (p : Vector Byte 8) (l : LimitMonitor) (t : Slot) :
    (muteSlots (setOfPayload p) l).muteSet.getLsbD t = (l.muteSet.getLsbD t || p[t.val / 8].getLsbD (t.val % 8)) := by
  rw [← getLsbD_setOfPayload]
  simp only [muteSlots, BitVec.getLsbD_or]

theorem getLsbD_unmuteSlots (p : Vector Byte 8) (l : LimitMonitor) (t : Slot) :
    (unmuteSlots (setOfPayload p) l).muteSet.getLsbD t = (l.muteSet.getLsbD t && !p[t.val / 8].getLsbD (t.val % 8)) := by
  rw [← getLsbD_setOfPayload]
  simp only [unmuteSlots, BitVec.getLsbD_and, BitVec.getLsbD_not, t.isLt, decide_true, Bool.true_and]

/-- A MUTES write changes the Mute Set and the limit records. -/
theorem editMutes_eq (m : ContextMode) (p : Vector Byte 8) (s : State) :
    let l := if m = .clear then unmuteSlots (setOfPayload p) s.limit else muteSlots (setOfPayload p) s.limit
    editMutes m p s = { s with limit := { s.limit with muteSet := l.muteSet, records := l.records } } := by
  simp only [editMutes]
  split <;> simp only [muteSlots, unmuteSlots, State.setLimit]

/-! LIMITS (R129) -/

/-- The range of each item of LIMITS (07 Table 7.3). -/
def limitRanges : Vector (Nat × Nat) 6 := #v[(8, 1024), (256, 65535), (1000, 32767), (1, 64), (16, 4096), (1, 255)]

/-- The items of LIMITS, in their order. -/
def limitItems (p : Limits) : Vector Word 6 :=
  #v[p.saturationThreshold, p.recoveryPeriod, p.shockThreshold, p.shockQuorum, p.shockHoldOff, p.rowStability]

theorem limitItems_get (p : Limits) (n : Fin 6) : (limitItems p)[n] = limitItem p n.val := by
  fin_cases n <;> rfl

theorem limitInRange_iff (n : Fin 6) (v : Word) :
    limitInRange n.val v = true ↔ limitRanges[n].1 ≤ v.toNat ∧ v.toNat ≤ limitRanges[n].2 := by
  fin_cases n <;> simp [limitInRange, limitRange, limitRanges]

theorem editLimits_accepted {p : Vector Byte 8} {i : Nat} (h : limitInRange i (payloadWord p 0) = true) (s : State) :
    editLimits p i s = some (s.setLimit { s.limit with params := setLimitItem s.limit.params i (payloadWord p 0) }) :=
  if_pos h

theorem editLimits_refused {p : Vector Byte 8} {i : Nat} (h : ¬ limitInRange i (payloadWord p 0) = true) (s : State) :
    editLimits p i s = none := if_neg h

theorem wordPayload_eq (w : Word) : wordPayload w = #v[hiByte w, loByte w, 0, 0, 0, 0, 0, 0] := rfl

/-! ALERTMAP (R165) -/

theorem routeOfCode_routeCode (route : AlertRoute) : routeOfCode (routeCode route) = some route := by cases route <;> rfl

/-- A value above 2 names no route. -/
theorem routeOfCode_none {b : Byte} (h : 2 < b.toNat) : routeOfCode b = none := by
  unfold routeOfCode
  split
  case h_4 => rfl
  all_goals omega

theorem editAlertmap_accepted {p : Vector Byte 8} {route : AlertRoute} (h : p[1] = routeCode route) (n : Fin 16) (s : State) :
    editAlertmap p n.val s =
      some { s with alerts :=
        { s.alerts with map := s.alerts.map.set n { masked := p[0].getLsbD 0, route := route } } } := by
  have hn : Fin.ofNat 16 n.val = n := by ext; simp
  simp only [editAlertmap, h, routeOfCode_routeCode, Option.map_some, hn]
  rfl

theorem editAlertmap_refused {p : Vector Byte 8} (h : 2 < p[1].toNat) (i : Nat) (s : State) : editAlertmap p i s = none := by
  simp only [editAlertmap, routeOfCode_none h, Option.map_none]

theorem readItem_alertmap (n : Fin 16) (u : State) : readItem .alertmap n.val u = .item false (alertPayload u.alerts.map[n]) := by
  have hn : Fin.ofNat 16 n.val = n := by ext; simp
  simp only [readItem, hn]

theorem getLsbD_bit (b : Bool) : (bit b).getLsbD 0 = b := by cases b <;> rfl

/-! The obligation, table by table -/

/-- A MUTES write with the CONFIG lock leaves the Mute Set and the records that its mode makes of the operand (R122). -/
theorem acceptedData_mutes {r : Request} {s u : State} {m : ContextMode} (ht : Taken r s u) (ho : OpenAt r s .mutes 0 m)
    (hh : Holds r .config s) {l : LimitMonitor}
    (hl : (if m = .clear then unmuteSlots (setOfPayload r.payload) s.limit else muteSlots (setOfPayload r.payload) s.limit) = l) :
    AcceptedData (.dataMutes r) r .mutes s u
      { u with limit := { u.limit with muteSet := l.muteSet, records := l.records } } := by
  have hc := ht.openAt ho
  refine acceptedData_of_configWrite (e := fun _ s => some (editMutes (contextOf r u).mode r.payload s)) ht rfl
    (dataRow_of_open hc) hh ?_ rfl
  rw [hc, editMutes_eq, ht.limit, hl]

/-- Settles O47, table by table. -/
theorem configurationIsWrittenAndRead : Obligations.ConfigurationIsWrittenAndRead := by
  refine ⟨fun r s u m ht ho => ?_, fun r s u n m ht ho => ?_, fun r s u n m ht ho => ?_⟩
  · refine ⟨fun hh hm => ⟨_, _, getLsbD_muteSlots r.payload s.limit, fun t joins => muteSlots_of_joins ?_,
        fun t rest => muteSlots_of_rest ?_, acceptedData_mutes ht ho hh (by rw [hm]; rfl)⟩,
      fun hh hm => ⟨_, _, getLsbD_unmuteSlots r.payload s.limit, fun t leaves => unmuteSlots_of_leaves ?_,
        fun t rest => unmuteSlots_of_rest ?_, acceptedData_mutes ht ho hh (by rw [hm]; rfl)⟩,
      _, getLsbD_payloadOfSet s.limit.muteSet, answeredItem_of_readItem ht ho (by decide) (by rw [readItem, ht.limit])⟩ <;>
      rwa [getLsbD_setOfPayload]
  · have hc := ht.openAt ho
    have range := limitInRange_iff n (payloadWord r.payload 0)
    have items : ∀ p, (limitItems p)[n] = limitItem p n.val := fun p => limitItems_get p n
    refine ⟨fun hh low high => ⟨setLimitItem s.limit.params n.val (payloadWord r.payload 0),
        (items _).trans (limitItem_setLimitItem n.isLt _ _),
        fun k hk => limitItem_setLimitItem_ne n.isLt k.isLt (fun e => hk (Fin.ext e)) _ _,
        acceptedData_of_configWrite (e := editLimits r.payload) ht rfl (dataRow_of_open hc) hh ?_ rfl⟩,
      fun hh out => refusedData_of_configWrite (e := editLimits r.payload) ht rfl (dataRow_of_open hc) hh ?_,
      answeredItem_of_readItem ht ho (by decide) ?_⟩
    · rw [hc, editLimits_accepted (range.2 ⟨low, high⟩), ht.limit]
      rfl
    · rw [hc, editLimits_refused]
      intro inside
      obtain ⟨low, high⟩ := range.1 inside
      exact out.elim (Nat.not_lt.2 low) (Nat.not_lt.2 high)
    · rw [readItem, ht.limit, ← items, wordPayload_eq]
      rfl
  · have hc := ht.openAt ho
    refine ⟨fun hh route hr => acceptedData_of_configWrite (e := editAlertmap r.payload) ht rfl (dataRow_of_open hc) hh ?_ rfl,
      fun hh hr => refusedData_of_configWrite (e := editAlertmap r.payload) ht rfl (dataRow_of_open hc) hh ?_,
      alertPayload s.alerts.map[n], getLsbD_bit _, ?_,
      answeredItem_of_readItem ht ho (by decide) (by rw [readItem_alertmap, ht.alerts])⟩
    · have named : r.payload[1] = routeCode route := by
        rw [hr]
        cases route <;> rfl
      rw [hc, editAlertmap_accepted named]
    · rw [hc, editAlertmap_refused hr]
    · change routeCode s.alerts.map[n].route = _
      cases s.alerts.map[n].route <;> rfl

end Sys2Proof.Machine
end

section
/-! PROOFS. The checks of a row in validation, position by position (R136, R137). -/

namespace Sys2Proof.Machine

/-! Sums over positions -/

theorem sum_map_toList {α : Type} {n : Nat} (v : Vector α n) (g : α → Nat) : (v.toList.map g).sum = ∑ i : Fin n, g v[i] := by
  have positions : v.toList = (List.finRange n).map fun i => v[i] := List.ext_getElem (by simp) (by simp)
  rw [Fin.sum_univ_def, positions, List.map_map]
  rfl

/-- Over optional values, those absent add nothing. -/
theorem sum_map_filterMap_id {α : Type} (l : List (Option α)) (g : α → Nat) :
    ((l.filterMap id).map g).sum = (l.map fun o => o.elim 0 g).sum := by
  induction l with
  | nil => rfl
  | cons o l ih =>
    cases o with
    | none => rw [List.filterMap_cons_none rfl, List.map_cons, List.sum_cons, Option.elim_none, Nat.zero_add, ih]
    | some a => rw [List.filterMap_cons_some (f := id) rfl, List.map_cons, List.sum_cons, ih]; rfl

theorem tapSum_eq_sum (k : Kernel) : tapSum k = ∑ i : Fin 16, k.taps[i].toInt.natAbs := sum_map_toList k.taps _

/-- The load of R137, position by position: an absent entry adds nothing. -/
theorem rowLoad_eq_sum (b : Bank) (row : Row) :
    rowLoad b row =
      ∑ p : Fin 8, row[p].elim 0 fun e => e.gain.toInt.natAbs * ∑ i : Fin 16, b.kernels[e.kernel].taps[i].toInt.natAbs := by
  simp only [rowLoad, presentEntries, sum_map_filterMap_id, sum_map_toList, tapSum_eq_sum]

/-! The two conditions on entries (R136) -/

theorem anyUndefined_iff (b : Bank) (row : Row) :
    ((presentEntries row).any fun e => !b.kernels[e.kernel].defined) = true ↔
      ∃ (p : Fin 8) (e : Entry), row[p] = some e ∧ b.kernels[e.kernel].defined = false := by
  simp only [List.any_eq_true, mem_presentEntries, Bool.not_eq_true']
  exact ⟨fun ⟨e, ⟨p, present⟩, undefined⟩ => ⟨p, e, present, undefined⟩,
    fun ⟨p, e, present, undefined⟩ => ⟨e, ⟨p, present⟩, undefined⟩⟩

/-- A row is not lawful when a source is the target or stands at two positions (R54). -/
theorem not_lawfulRow_iff (t : Slot) (row : Row) :
    (!lawfulRow t row) = true ↔
      (∃ (p : Fin 8) (e : Entry), row[p] = some e ∧ e.source = t) ∨
      ∃ (p q : Fin 8) (e g : Entry), p ≠ q ∧ row[p] = some e ∧ row[q] = some g ∧ e.source = g.source := by
  rw [Bool.not_eq_true', ← Bool.not_eq_true, lawfulRow_iff, not_and_or]
  push Not
  refine or_congr_right ⟨?_, ?_⟩
  · rintro ⟨p, q, hpq, e, he, g, hg, same⟩
    exact ⟨p, q, e, g, hpq, he, hg, same⟩
  · rintro ⟨p, q, e, g, hpq, he, hg, same⟩
    exact ⟨p, q, hpq, e, he, g, hg, same⟩

/-- Settles O24: the checks of R136 in their order, each in the words of the statement. -/
theorem rowChecks : Obligations.RowChecks := by
  intro limit b t present undefinedKernel badEntry load
  have undefined := anyUndefined_iff b b.rows[t]
  have bad := not_lawfulRow_iff t b.rows[t]
  have exact_load : load = rowLoad b b.rows[t] := by
    rw [rowLoad_eq_sum]
    refine Finset.sum_congr rfl fun p _ => ?_
    cases b.rows[t][p] <;> rfl
  unfold rowFault
  simp only []
  refine ⟨fun hu => if_pos (undefined.2 hu), fun hu hb => ?_, fun hu hb hl => ?_, fun hu hb hl => ?_⟩ <;>
    rw [if_neg (mt undefined.1 hu)]
  · exact if_pos (bad.2 hb)
  · rw [if_neg (mt bad.1 hb), if_pos (exact_load ▸ hl)]
  · rw [if_neg (mt bad.1 hb), if_neg (exact_load ▸ Nat.not_lt.2 hl)]

end Sys2Proof.Machine
end

section
/-! PROOFS. The Bank Engine at a frame boundary in each of its states (R123, R132, R135, R138 to R143). -/

namespace Sys2Proof.Machine

/-! The first failing row (R135) -/

/-- A search over all indices finds the lowest one that has a value. -/
theorem findSome?_finRange_eq_some {α : Type} {n : Nat} {f : Fin n → Option α} {i : Fin n} {a : α} (hi : f i = some a)
    (first : ∀ j, j < i → f j = none) : (List.finRange n).findSome? f = some a := by
  have present := List.mem_finRange i
  cases found : (List.finRange n).findSome? f with
  | none =>
    rw [List.findSome?_eq_none_iff.1 found i present] at hi
    cases hi
  | some b =>
    obtain ⟨low, j, high, split, hj, absent⟩ := List.findSome?_eq_some_iff.1 found
    have sorted := List.pairwise_lt_finRange n
    rw [split] at present sorted
    rcases List.mem_append.1 present with below | here
    · rw [absent i below] at hi
      cases hi
    · rcases List.mem_cons.1 here with rfl | above
      · exact hj.symm.trans hi
      · rw [first j ((List.pairwise_cons.1 (List.pairwise_append.1 sorted).2.1).1 i above)] at hj
        cases hj

theorem firstFault_eq_none_iff {limit : Word} {b : Bank} {r : Nat} :
    firstFault limit b r = none ↔ ∀ u : Slot, r ≤ u.val → u.val < r + 4 → rowFault limit b u = none := by
  simp only [firstFault, List.findSome?_eq_none_iff, List.mem_finRange, Bool.and_eq_true, decide_eq_true_eq,
    ite_eq_right_iff, Option.map_eq_none_iff, and_imp, forall_const]
  rfl

/-- The row named is the lowest of the four that fails. -/
theorem firstFault_eq_some {limit : Word} {b : Bank} {r : Nat} {u : Slot} {reason : RejectReason} (hlow : r ≤ u.val)
    (hhigh : u.val < r + 4) (hu : rowFault limit b u = some reason)
    (first : ∀ v : Slot, r ≤ v.val → v < u → rowFault limit b v = none) :
    firstFault limit b r = some { row := u, reason := reason } := by
  refine findSome?_finRange_eq_some (i := u) ?_ fun v below => ?_
  · simp [hlow, hhigh, hu, Config.rowsPerStep]
  · split
    · next inside =>
      rw [Bool.and_eq_true, decide_eq_true_eq] at inside
      rw [first v inside.1 below, Option.map_none]
    · rfl

/-! The engine's reaction, state by state -/

section
variable {s : State}

theorem engineBoundary_of_idle (he : s.banks.engine = .idle) : engineBoundary s = s := by simp only [engineBoundary, he]

theorem engineBoundary_of_validating (he : s.banks.engine = .validating) : engineBoundary s = validationStep s := by
  simp only [engineBoundary, he]

theorem engineBoundary_of_swapPending (he : s.banks.engine = .swapPending) : engineBoundary s = swapBanks s := by
  simp only [engineBoundary, he]

theorem engineBoundary_of_resync (he : s.banks.engine = .resync) : engineBoundary s = copyStep s := by
  simp only [engineBoundary, he]

/-- A failing row ends the validation and is named (R138). -/
theorem validationStep_of_fault {j : Rejection}
    (h : firstFault s.limit.params.rowStability (standbyBank s.banks) s.banks.progress = some j) :
    validationStep s =
      raiseAlert .commitRejected
        (s.setBanks { s.banks with engine := .idle, progress := 0, operation := none, rejection := some j }) := by
  simp only [validationStep, h]

/-- Four rows that pass: the next four wait, or the swap is pending behind row 63 (R135, R139). -/
theorem validationStep_of_pass (he : s.banks.engine = .validating)
    (h : firstFault s.limit.params.rowStability (standbyBank s.banks) s.banks.progress = none) :
    validationStep s =
      s.setBanks
        { s.banks with
          engine := if s.banks.progress + 4 < 64 then .validating else .swapPending
          progress := if s.banks.progress + 4 < 64 then s.banks.progress + 4 else 0 } := by
  simp only [validationStep, h]
  by_cases more : s.banks.progress + 4 < 64
  · rw [if_pos more, if_pos more, ← he]
    exact if_neg (Nat.not_le.2 more)
  · rw [if_neg more, if_neg more]
    exact if_pos (Nat.not_lt.1 more)

/-- The eight items of the copy at the engine's place, written into the standby bank (R142). -/
def copiedUnit (u : BankUnit) : BankUnit := setStandby u (copyItemsFrom (liveBank u) (standbyBank u) u.progress)

theorem copyStep_of_more (h : s.banks.progress + 8 < 200) :
    copyStep s = s.setBanks { copiedUnit s.banks with progress := s.banks.progress + 8 } :=
  if_neg (Nat.not_le.2 h)

theorem copyStep_of_last (h : 200 ≤ s.banks.progress + 8) : copyStep s = endCopy (s.setBanks (copiedUnit s.banks)) :=
  if_pos h

end

/-- What a boundary makes of a Bank Unit u with the given row stability limit, in each state of the engine. -/
structure EngineReacts (limit : Word) (u v : BankUnit) : Prop where
  idle : u.engine = .idle → v = u
  passed : u.engine = .validating →
    (∀ t : Slot, u.progress ≤ t.val → t.val < u.progress + 4 → rowFault limit (standbyBank u) t = none) →
    v = { u with
      engine := if u.progress + 4 < 64 then .validating else .swapPending
      progress := if u.progress + 4 < 64 then u.progress + 4 else 0 }
  rejected : ∀ (t : Slot) (reason : RejectReason), u.engine = .validating → u.progress ≤ t.val → t.val < u.progress + 4 →
    rowFault limit (standbyBank u) t = some reason →
    (∀ w : Slot, u.progress ≤ w.val → w < t → rowFault limit (standbyBank u) w = none) →
    v = { u with engine := .idle, progress := 0, operation := none, rejection := some { row := t, reason := reason } }
  swapped : u.engine = .swapPending →
    v = { u with liveId := otherBank u.liveId, generation := u.generation + 1, engine := .resync, progress := 0 }
  copied : u.engine = .resync → u.progress + 8 < 200 → v = { copiedUnit u with progress := u.progress + 8 }
  done : u.engine = .resync → 200 ≤ u.progress + 8 →
    v = { copiedUnit u with standbyCondition := .clean, engine := .idle, progress := 0, operation := none }

theorem engineBoundary_reacts (s : State) :
    EngineReacts s.limit.params.rowStability s.banks (engineBoundary s).banks where
  idle he := by rw [engineBoundary_of_idle he]
  passed he h := by
    rw [engineBoundary_of_validating he, validationStep_of_pass he (firstFault_eq_none_iff.2 h)]
    rfl
  rejected t reason he low high ht first := by
    rw [engineBoundary_of_validating he, validationStep_of_fault (firstFault_eq_some low high ht first)]
    rfl
  swapped he := by rw [engineBoundary_of_swapPending he, swapBanks_eq]
  copied he h := by
    rw [engineBoundary_of_resync he, copyStep_of_more h]
    rfl
  done he h := by
    rw [engineBoundary_of_resync he, copyStep_of_last h]
    rfl

/-- The items copied are those of the live bank, the others stay (R142). -/
theorem copyItemsFrom_items (src dst : Bank) (r : Nat) :
    let copied := fun i : Nat => r ≤ i ∧ i < r + 8
    let b := copyItemsFrom src dst r
    (∀ u : Slot, b.rows[u] = if copied u.val then src.rows[u] else dst.rows[u]) ∧
    (∀ k : Fin 128, b.kernels[k] = if copied (64 + k.val) then src.kernels[k] else dst.kernels[k]) ∧
    (∀ j : Fin 8, b.templates[j] = if copied (192 + j.val) then src.templates[j] else dst.templates[j]) := by
  simp only [copyItemsFrom, Bool.and_eq_true, decide_eq_true_eq, Fin.getElem_fin, Vector.getElem_ofFn]
  exact ⟨fun _ => rfl, fun _ => rfl, fun _ => rfl⟩

/-! The sources the engine raises -/

theorem validationStep_raisesOnly (s : State) : RaisesOnly [4] s (validationStep s) := by
  unfold validationStep
  simp only []
  split
  · exact .trans (l := []) (.of_eq rfl) (.raise (by decide) _)
  · split <;> exact .of_eq rfl

theorem copyStep_raisesOnly (s : State) : RaisesOnly [5] s (copyStep s) := by
  rcases Nat.lt_or_ge (s.banks.progress + 8) 200 with more | last
  · rw [copyStep_of_more more]
    exact .of_eq rfl
  · rw [copyStep_of_last last]
    exact .trans (l := []) (.of_eq rfl) (.raise (by decide) _)

/-- COMMIT_REJECTED is raised by a row that fails (R138). -/
theorem engineBoundary_commitRejected (s : State) :
    (engineBoundary s).alerts.pending.getLsbD (4 : Fin 16) = true ↔
      s.alerts.pending.getLsbD (4 : Fin 16) = true ∨ s.banks.engine = .validating ∧
        ∃ u : Slot, s.banks.progress ≤ u.val ∧ u.val < s.banks.progress + 4 ∧
          rowFault s.limit.params.rowStability (standbyBank s.banks) u ≠ none := by
  cases he : s.banks.engine with
  | idle =>
    rw [engineBoundary_of_idle he]
    exact (or_iff_left fun h => nomatch h.1).symm
  | validating =>
    rw [engineBoundary_of_validating he]
    cases found : firstFault s.limit.params.rowStability (standbyBank s.banks) s.banks.progress with
    | none =>
      rw [validationStep_of_pass he found]
      refine (or_iff_left ?_).symm
      rintro ⟨-, u, low, high, fails⟩
      exact fails (firstFault_eq_none_iff.1 found u low high)
    | some j =>
      rw [validationStep_of_fault found]
      refine iff_of_true ((pending_raiseAlert .commitRejected _ 4).2 (.inr rfl)) (.inr ⟨rfl, ?_⟩)
      by_contra passes
      push Not at passes
      rw [firstFault_eq_none_iff.2 passes] at found
      cases found
  | swapPending =>
    rw [engineBoundary_of_swapPending he]
    exact (or_iff_left fun h => nomatch h.1).symm
  | resync =>
    rw [engineBoundary_of_resync he, copyStep_raisesOnly s 4 (by decide)]
    exact (or_iff_left fun h => nomatch h.1).symm

/-- COMMIT_DONE is raised by the end of the copy (R143). -/
theorem engineBoundary_commitDone (s : State) :
    (engineBoundary s).alerts.pending.getLsbD (5 : Fin 16) = true ↔
      s.alerts.pending.getLsbD (5 : Fin 16) = true ∨ s.banks.engine = .resync ∧ 200 ≤ s.banks.progress + 8 := by
  cases he : s.banks.engine with
  | idle =>
    rw [engineBoundary_of_idle he]
    exact (or_iff_left fun h => nomatch h.1).symm
  | validating =>
    rw [engineBoundary_of_validating he, validationStep_raisesOnly s 5 (by decide)]
    exact (or_iff_left fun h => nomatch h.1).symm
  | swapPending =>
    rw [engineBoundary_of_swapPending he]
    exact (or_iff_left fun h => nomatch h.1).symm
  | resync =>
    rw [engineBoundary_of_resync he]
    rcases Nat.lt_or_ge (s.banks.progress + 8) 200 with more | last
    · rw [copyStep_of_more more]
      exact (or_iff_left fun h => Nat.not_le.2 more h.2).symm
    · rw [copyStep_of_last last]
      exact iff_of_true ((pending_raiseAlert .commitDone _ 5).2 (.inr rfl)) (.inr ⟨rfl, last⟩)

/-! The boundary -/

theorem boundaryIntake_params (f : Frame) (s : State) : (boundaryIntake f s).limit.params = s.limit.params :=
  (boundaryIntake_keeps f s).params

/-- Of the reactions to a boundary only the Bank Engine's touches the banks. -/
theorem frameBoundary_banks (f : Frame) (s : State) :
    (frameBoundary f s).banks = (engineBoundary (boundaryIntake f s)).banks := by
  simp only [frameBoundary, persistBoundary_banks, captureBoundary_banks, leaseBoundary_banks, startPass_banks,
    pulseBoundary_banks]

theorem frameBoundary_engineReacts (f : Frame) (s : State) :
    EngineReacts s.limit.params.rowStability s.banks (frameBoundary f s).banks := by
  have reacts := engineBoundary_reacts (boundaryIntake f s)
  rwa [boundaryIntake_params, boundaryIntake_banks, ← frameBoundary_banks] at reacts

/-- Behind the Bank Engine's reaction a boundary raises neither of its sources. -/
theorem frameBoundary_raisesOnly_behind_engine (f : Frame) (s : State) :
    RaisesOnly [11, 8, 13, 6] (engineBoundary (boundaryIntake f s)) (frameBoundary f s) := by
  have started : ∀ u, RaisesOnly [] u (startPass f.number u) := fun u => .of_eq (startPass_alerts f.number u)
  unfold frameBoundary
  exact ((((pulseBoundary_raisesOnly _ _ _).trans (started _)).trans (leaseBoundary_raisesOnly _)).trans
    (captureBoundary_raisesOnly _ _ _ _)).trans (persistBoundary_raisesOnly _)

theorem frameBoundary_commitRejected (f : Frame) (s : State) :
    (frameBoundary f s).alerts.pending.getLsbD (4 : Fin 16) = true ↔
      s.alerts.pending.getLsbD (4 : Fin 16) = true ∨ s.banks.engine = .validating ∧
        ∃ u : Slot, s.banks.progress ≤ u.val ∧ u.val < s.banks.progress + 4 ∧
          rowFault s.limit.params.rowStability (standbyBank s.banks) u ≠ none := by
  rw [frameBoundary_raisesOnly_behind_engine f s 4 (by decide), engineBoundary_commitRejected, boundaryIntake_banks,
    boundaryIntake_params, boundaryIntake_raisesOnly f s 4 (by decide)]

theorem frameBoundary_commitDone (f : Frame) (s : State) :
    (frameBoundary f s).alerts.pending.getLsbD (5 : Fin 16) = true ↔
      s.alerts.pending.getLsbD (5 : Fin 16) = true ∨ s.banks.engine = .resync ∧ 200 ≤ s.banks.progress + 8 := by
  rw [frameBoundary_raisesOnly_behind_engine f s 5 (by decide), engineBoundary_commitDone, boundaryIntake_banks,
    boundaryIntake_raisesOnly f s 5 (by decide)]

theorem boundaryIntake_records (f : Frame) (s : State) : (boundaryIntake f s).limit.records = s.limit.records := by
  rw [boundaryIntake_eq, limitBoundary_records, shockStart_limit]

/-- The boundary of the swap resets the level of every target that is not MUTED (R123). -/
theorem frameBoundary_records_of_swap {s : State} (he : s.banks.engine = .swapPending) (f : Frame) (u : Slot) :
    (frameBoundary f s).limit.records[u] =
      if s.limit.records[u].level = .muted then s.limit.records[u] else { level := .normal, saturation := 0, recovery := 0 } := by
  have behind : (frameBoundary f s).limit = swapLevels (boundaryIntake f s).limit := by
    simp only [frameBoundary, persistBoundary_limit, captureBoundary_limit, leaseBoundary_limit, startPass_limit,
      pulseBoundary_limit]
    rw [engineBoundary_of_swapPending (by rwa [boundaryIntake_banks]), swapBanks_eq]
  rw [behind]
  simp only [swapLevels, boundaryIntake_records, Fin.getElem_fin, Vector.getElem_ofFn]
  rfl

/-- Settles O23, state by state. -/
theorem bankEngineAtTheBoundary : Obligations.BankEngineAtTheBoundary := by
  intro f s hm
  have rejects := frameBoundary_commitRejected f (boundaryStart f s)
  have ends := frameBoundary_commitDone f (boundaryStart f s)
  have levels := fun he => frameBoundary_records_of_swap (s := boundaryStart f s) he f
  obtain ⟨idle, passed, rejected, swapped, copied, done⟩ := frameBoundary_engineReacts f (boundaryStart f s)
  obtain ⟨rows, kernels, templates⟩ := copyItemsFrom_items (liveBank s.banks) (standbyBank s.banks) s.banks.progress
  refine ⟨matchedReturn f s, exec_returnFrame_matching f s hm, ?_⟩
  rw [matchedReturn_eq]
  refine ⟨rejects, ends, idle, passed, rejected, fun he => ⟨swapped he, levels he⟩, fun he =>
    ⟨copyItemsFrom (liveBank s.banks) (standbyBank s.banks) s.banks.progress, fun u => ?_, fun k => ?_, fun j => ?_,
      copied he, done he⟩⟩
  · rw [rows u]
    exact ⟨fun h => if_pos h, fun h => if_neg h⟩
  · rw [kernels k]
    exact ⟨fun h => if_pos h, fun h => if_neg h⟩
  · rw [templates j]
    exact ⟨fun h => if_pos h, fun h => if_neg h⟩

end Sys2Proof.Machine
end

section
/-! SUPPORT. When Response Queue, Lock Table and Load Contexts are lawful beside the RESET taken in a passage, and what keeps them
so (R149, R151, R156, R159). -/

namespace Sys2Proof.Machine

/-! Holders -/

/-- A domain is FREE, or its holder has a tag other than 0 and a lease below its end (R156, R158). -/
def HolderLawful (h : Option Holder) : Prop := ∀ x, h = some x → x.tag ≠ 0 ∧ x.lease < Config.leaseLimit

theorem holderLawful_none : HolderLawful none := nofun

theorem holderLawful_some {x : Holder} : HolderLawful (some x) ↔ x.tag ≠ 0 ∧ x.lease < Config.leaseLimit :=
  ⟨fun h => h x rfl, by rintro h _ ⟨⟩; exact h⟩

/-- A holder whose lease has just begun (R156, R158). -/
theorem holderLawful_renewed (m : ManagerId) {g : Tag} (h : g ≠ 0) :
    HolderLawful (some { manager := m, tag := g, lease := 0 }) := holderLawful_some.2 ⟨h, Nat.zero_lt_succ _⟩

theorem locksLawful_iff (s : State) : LocksLawful s ↔ ∀ d, HolderLawful (lockOf s.mgmt.locks d) := Iff.rfl

theorem HolderLawful.renewLease {h : Option Holder} (hh : HolderLawful h) (r : Request) : HolderLawful (renewLease r h) := by
  unfold Machine.renewLease
  split
  · cases h with
    | none => exact holderLawful_none
    | some x => exact holderLawful_renewed _ (hh x rfl).1
  · exact hh

/-- A lease that does not end at a boundary stays below its end (R158). -/
theorem HolderLawful.advanceLease {h : Option Holder} (hh : HolderLawful h) : HolderLawful (advanceLease h) := by
  unfold Machine.advanceLease
  split
  · exact holderLawful_none
  · next goesOn =>
    cases h with
    | none => exact holderLawful_none
    | some x => exact holderLawful_some.2 ⟨(hh x rfl).1, by simpa [leaseEnds] using goesOn⟩

theorem lockOf_leaseBoundary (s : State) (d : Domain) :
    lockOf (leaseBoundary s).mgmt.locks d = advanceLease (lockOf s.mgmt.locks d) := by
  cases d <;> simp [leaseBoundary, lockOf]

theorem lockOf_frameBoundary (f : Frame) (s : State) (d : Domain) :
    lockOf (frameBoundary f s).mgmt.locks d = advanceLease (lockOf s.mgmt.locks d) := by
  simp [frameBoundary, lockOf_leaseBoundary]

/-! Load Contexts -/

theorem contextLawful_initial : ContextLawful LoadContext.initial := ⟨rfl, rfl⟩

/-- The item read or written was one of the table, so the index has not passed the item count (R152). -/
theorem ContextLawful.advance {c : LoadContext} (h : ContextLawful c) {t : Table} (ho : c.state = .opened)
    (ht : c.table = some t) : ContextLawful (advanceContext t c) := by
  simp only [ContextLawful, ho, ht] at h
  obtain ⟨item, mode⟩ := h
  by_cases last : c.index + 1 = itemCount t
  · simp [ContextLawful, advanceContext, last, ht, mode]
  · simp only [ContextLawful, advanceContext, last, ht]
    exact ⟨by omega, mode⟩

/-! The part -/

/-- The Response Queue holds at most 8 entries and a reserved one only beside a RESET taken, here k; locks and contexts are lawful. -/
structure ManagementLawful (k : Option ResetKind) (s : State) : Prop where
  length : s.mgmt.queue.length ≤ Config.queueCapacity
  reserved : QueueEntry.reserved ∈ s.mgmt.queue → k.isSome = true
  locks : LocksLawful s
  contexts : ContextsLawful s

/-- The RESET of the statement is the one taken in the passage in composition. -/
theorem managementLawful_iff (s : State) :
    ManagementLawful (passageReset s) s ↔ QueueLawful s ∧ LocksLawful s ∧ ContextsLawful s :=
  ⟨fun h => ⟨⟨h.length, fun _ he hr => h.reserved (hr ▸ he)⟩, h.locks, h.contexts⟩,
    fun ⟨⟨length, reserved⟩, locks, contexts⟩ => ⟨length, fun hr => reserved _ hr rfl, locks, contexts⟩⟩

theorem managementLawful_initial (k : Option ResetKind) {s : State} (h : s.mgmt = Management.initial) :
    ManagementLawful k s where
  length := by simp [h, Management.initial]
  reserved := by simp [h, Management.initial]
  locks d x hd := by simp [h, initial_lockOf] at hd
  contexts m := by simpa [h, Management.initial] using contextLawful_initial

/-- Without a passage in composition no RESET has been taken in it. -/
theorem passageReset_quiet {s : State} (h : s.ports.composing = none) : passageReset s = none := by simp [passageReset, h]

namespace ManagementLawful

variable {k : Option ResetKind} {s t : State}

theorem congr (h : ManagementLawful k s) (hm : t.mgmt = s.mgmt) : ManagementLawful k t := by
  obtain ⟨length, reserved, locks, contexts⟩ := h
  exact ⟨hm ▸ length, hm ▸ reserved, by unfold LocksLawful; rwa [hm], by unfold ContextsLawful; rwa [hm]⟩

/-- With no RESET taken nothing is reserved, which is lawful beside any. -/
theorem weaken {j : Option ResetKind} (h : ManagementLawful none s) (hm : t.mgmt = s.mgmt) : ManagementLawful j t :=
  { h.congr hm with reserved := fun hr => absurd ((h.congr hm).reserved hr) (by simp) }

theorem of_quiet (h : ManagementLawful (passageReset s) s) (hq : s.ports.composing = none) : ManagementLawful none s :=
  passageReset_quiet hq ▸ h

/-- What leaves the passage in composition and the management is lawful as before. -/
theorem unmoved (h : ManagementLawful (passageReset s) s) (hc : t.ports.composing = s.ports.composing)
    (hm : t.mgmt = s.mgmt) : ManagementLawful (passageReset t) t := by
  unfold passageReset at *
  rw [hc]
  exact h.congr hm

theorem renewLeases (h : ManagementLawful k s) (r : Request) : ManagementLawful k (renewLeases r s) :=
  { h with locks := fun d => by rw [lockOf_renewLeases]; exact ((locksLawful_iff s).1 h.locks d).renewLease r }

/-- A free entry takes a response. -/
theorem enqueue (h : ManagementLawful k s) (free : s.mgmt.queue.length < Config.queueCapacity) (code : Byte) (r : Request)
    (a : Reply) : ManagementLawful k (enqueue code r a s) :=
  { h with
    length := by simpa [Machine.enqueue] using free
    reserved := fun hr => h.reserved (by simpa [Machine.enqueue] using hr) }

/-- A free entry is reserved by a RESET that is taken. -/
theorem reserveEntry (h : ManagementLawful k s) (free : s.mgmt.queue.length < Config.queueCapacity) (j : ResetKind) :
    ManagementLawful (some j) (reserveEntry s) :=
  { h with
    length := by simpa [Machine.reserveEntry] using free
    reserved := fun _ => rfl }

/-- The queue keeps its entries or loses some at its head. -/
theorem dequeue (h : ManagementLawful k s) (hq : t.mgmt.queue <:+ s.mgmt.queue) (locks : LocksLawful t)
    (contexts : ContextsLawful t) : ManagementLawful k t where
  length := hq.length_le.trans h.length
  reserved hr := h.reserved (hq.mem hr)
  locks := locks
  contexts := contexts

/-- Decisions leave the queue. -/
theorem decided (h : ManagementLawful k s) (hq : t.mgmt.queue = s.mgmt.queue) (locks : LocksLawful t)
    (contexts : ContextsLawful t) : ManagementLawful k t := h.dequeue (hq ▸ List.suffix_rfl) locks contexts

/-- A frame boundary advances the leases (R158). -/
theorem advanceLeases (h : ManagementLawful k s) (hq : t.mgmt.queue = s.mgmt.queue)
    (hl : ∀ d, lockOf t.mgmt.locks d = advanceLease (lockOf s.mgmt.locks d)) (hc : t.mgmt.contexts = s.mgmt.contexts) :
    ManagementLawful k t :=
  h.decided hq ((locksLawful_iff t).2 fun d => hl d ▸ ((locksLawful_iff s).1 h.locks d).advanceLease) fun m => by
    rw [hc]
    exact h.contexts m

end ManagementLawful

/-! Decisions on locks -/

theorem LocksLawful.congr {s t : State} (h : LocksLawful s) (hl : t.mgmt.locks = s.mgmt.locks) : LocksLawful t := by
  unfold LocksLawful
  rwa [hl]

theorem LocksLawful.setLock {s t : State} (h : LocksLawful s) (d : Domain) {x : Option Holder} (hx : HolderLawful x)
    (hl : t.mgmt.locks = setLock s.mgmt.locks d x) : LocksLawful t := by
  intro e
  rw [hl, lockOf_setLock]
  split
  · exact hx
  · exact h e

/-- CLAIM gives a domain to a tag other than 0, with lease 0 (R156). -/
theorem decideClaim_locksLawful (r : Request) {s : State} (h : LocksLawful s) : LocksLawful (decideClaim r s).1 := by
  unfold decideClaim
  split
  · exact h
  · next d _ =>
    split
    · exact h
    · next tagged =>
      split
      · exact h.setLock d (holderLawful_renewed _ tagged) rfl
      · next x hx =>
        split
        · exact h.setLock d (holderLawful_renewed _ (h d x hx).1) rfl
        · exact h

theorem decideRelease_locksLawful (r : Request) {s : State} (h : LocksLawful s) : LocksLawful (decideRelease r s).1 := by
  unfold decideRelease
  split
  · exact h
  · next d _ =>
    split
    · exact h.setLock d holderLawful_none rfl
    · exact h

theorem decideCommand_locksLawful (code : Byte) (r : Request) {s : State} (h : LocksLawful s) :
    LocksLawful (decideCommand code r s).1 := by
  have keeps : ∀ {t : State}, t.mgmt.locks = s.mgmt.locks → LocksLawful t := h.congr
  exact decideCommand_preserves LocksLawful code r s (keeps (by simp)) (decideClaim_locksLawful r h)
    (decideRelease_locksLawful r h) (keeps (by simp)) (keeps (by simp)) (keeps (by simp)) (keeps (by simp)) (keeps (by simp))
    (keeps (by simp)) (keeps (by simp)) (keeps (by simp)) (keeps (by simp)) (keeps (by simp)) h

/-! Decisions on Load Contexts -/

theorem ContextsLawful.congr {s t : State} (h : ContextsLawful s) (hc : t.mgmt.contexts = s.mgmt.contexts) :
    ContextsLawful t := by
  unfold ContextsLawful
  rwa [hc]

theorem ContextsLawful.setContext {s : State} (h : ContextsLawful s) (r : Request) {c : LoadContext} (hc : ContextLawful c) :
    ContextsLawful (setContext r c s) := by
  intro m
  simp only [Machine.setContext, State.mgmt_setMgmt, Fin.getElem_fin, Vector.getElem_set]
  split
  · exact hc
  · exact h m

/-- SELECT opens a context on an item and in a mode of the table (R151). -/
theorem decideSelect_contextsLawful (r : Request) {s : State} (h : ContextsLawful s) :
    ContextsLawful (decideSelect r s).1 := by
  unfold decideSelect
  simp only []
  split
  · exact h
  · split
    · exact h
    · next item =>
      split
      · exact h
      · split
        · next admitted => exact h.setContext r ⟨Nat.not_le.1 item, admitted⟩
        · exact h

section
variable {r : Request} {t : Table} {s : State}

theorem standbyWrite_contextsLawful (h : ContextsLawful s) (advanced : ContextLawful (advanceContext t (contextOf r s)))
    (edit : Nat → Bank → Option Bank) : ContextsLawful (standbyWrite r t edit s).1 := by
  unfold standbyWrite
  split
  · exact h
  · split
    · exact h
    · split
      · exact h
      · exact (h.congr (t := s.setBanks _) rfl).setContext r advanced

theorem configWrite_contextsLawful (h : ContextsLawful s) (advanced : ContextLawful (advanceContext t (contextOf r s)))
    {edit : Nat → State → Option State} (hedit : ∀ i v, edit i s = some v → v.mgmt = s.mgmt) :
    ContextsLawful (configWrite r t edit s).1 := by
  unfold configWrite
  split
  · exact h
  · split
    · exact h
    · next v hv =>
      have kept := hedit _ v hv
      have same : contextOf r v = contextOf r s := by simp only [contextOf, kept]
      exact (h.congr (by rw [kept])).setContext r (same ▸ advanced)

end

theorem editSlotmap_mgmt {p : Vector Byte 8} {i : Nat} {s v : State} (h : editSlotmap p i s = some v) : v.mgmt = s.mgmt :=
  editSlotmap_keeps (fun s => s.mgmt) p i s v h (fun _ _ => rfl) (fun _ _ => rfl)

theorem editLimits_mgmt {p : Vector Byte 8} {i : Nat} {s v : State} (h : editLimits p i s = some v) : v.mgmt = s.mgmt := by
  simp only [editLimits, Option.ite_none_right_eq_some, Option.some.injEq] at h
  rw [← h.2, State.mgmt_setLimit]

theorem editAlertmap_mgmt {p : Vector Byte 8} {i : Nat} {s v : State} (h : editAlertmap p i s = some v) :
    v.mgmt = s.mgmt := by
  obtain ⟨_, -, rfl⟩ := Option.map_eq_some_iff.1 h
  rfl

/-- DATA advances the context OPEN on its table, or leaves it (R152). -/
theorem decideData_contextsLawful (r : Request) {s : State} (h : ContextsLawful s) : ContextsLawful (decideData r s).1 := by
  unfold decideData
  simp only []
  split
  · next t ho ht =>
    have advanced : ContextLawful (advanceContext t (contextOf r s)) := (h r.manager).advance ho ht
    split
    · split <;> exact standbyWrite_contextsLawful h advanced _
    · split <;> exact standbyWrite_contextsLawful h advanced _
    · exact standbyWrite_contextsLawful h advanced _
    · exact configWrite_contextsLawful h advanced fun _ _ => editSlotmap_mgmt
    · exact configWrite_contextsLawful h advanced (by rintro _ _ ⟨⟩; rfl)
    · exact configWrite_contextsLawful h advanced (by rintro _ _ ⟨⟩; rfl)
    · exact configWrite_contextsLawful h advanced fun _ _ => editLimits_mgmt
    · exact configWrite_contextsLawful h advanced fun _ _ => editAlertmap_mgmt
    all_goals exact h
  · exact h

theorem answerRead_contextsLawful {r : Request} {t : Table} {s : State} (h : ContextsLawful s)
    (advanced : ContextLawful (advanceContext t (contextOf r s))) : ContextsLawful (answerRead t r s).1 := by
  unfold answerRead
  simp only []
  split
  · exact h
  · exact h.setContext r advanced

/-- READ advances the context OPEN on its table, or leaves it (R153). -/
theorem decideRead_contextsLawful (r : Request) {s : State} (h : ContextsLawful s) : ContextsLawful (decideRead r s).1 := by
  unfold decideRead
  simp only []
  split
  · next t ho ht =>
    have answered : ContextsLawful (answerRead t r s).1 := answerRead_contextsLawful h ((h r.manager).advance ho ht)
    split
    case h_1 => exact answered.congr (t := (readCounter r s).1) rfl
    all_goals exact answered
  · exact h

theorem decideCommand_contextsLawful (code : Byte) (r : Request) {s : State} (h : ContextsLawful s) :
    ContextsLawful (decideCommand code r s).1 := by
  have keeps : ∀ {t : State}, t.mgmt.contexts = s.mgmt.contexts → ContextsLawful t := h.congr
  exact decideCommand_preserves ContextsLawful code r s (keeps (by simp)) (keeps (by simp)) (keeps (by simp))
    (decideSelect_contextsLawful r h) (decideData_contextsLawful r h) (decideRead_contextsLawful r h) (keeps (by simp))
    (keeps (by simp)) (keeps (by simp)) (keeps (by simp)) (keeps (by simp)) (keeps (by simp)) (keeps (by simp)) h

end Sys2Proof.Machine
end

section
/-! PROOFS. Every step keeps the Response Queue within 8 entries and contexts and locks lawful (R149, R151, R152, R156, R158,
R159). -/

namespace Sys2Proof.Machine

/-! Commands -/

theorem entryFree_iff (s : State) : entryFree s = true ↔ s.mgmt.queue.length < Config.queueCapacity := by simp [entryFree]

theorem answerCommand_managementLawful (sent decided : Byte) (r : Request) {k : Option ResetKind} {s : State}
    (h : ManagementLawful k s) (free : entryFree s = true) :
    ManagementLawful k (answerCommand sent r (decideCommand decided r) s) := by
  have renewed := h.renewLeases r
  have decision := renewed.decided (decideCommand_queue decided r (renewLeases r s))
    (decideCommand_locksLawful decided r renewed.locks) (decideCommand_contextsLawful decided r renewed.contexts)
  exact decision.enqueue (by simpa using (entryFree_iff s).1 free) sent r _

theorem takeCommand_managementLawful (sent decided : Byte) (r : Request) {k : Option ResetKind} {s : State}
    (h : ManagementLawful k s) : ManagementLawful k (takeCommand sent r (decideCommand decided r) s) := by
  unfold takeCommand
  split
  · split
    · next free => exact answerCommand_managementLawful sent decided r h free
    · exact h.congr (bump_mgmt _ _ s)
  · exact h

/-- A cell of the command area is lawful beside the RESET that the area has come to. -/
theorem areaCell_managementLawful (a : AreaStep) (c : MgmtCell) (h : ManagementLawful a.reset a.state) :
    ManagementLawful (areaCell a c).1.reset (areaCell a c).1.state := by
  rcases areaCell_cases a c with ha | ⟨-, ha⟩ | ⟨free, k, ha⟩ | ⟨free, -, ha⟩ <;> rw [ha]
  · exact h
  · exact h.congr (bump_mgmt _ _ _)
  · exact (h.renewLeases _).reserveEntry (by simpa using (entryFree_iff a.state).1 free) k
  · exact answerCommand_managementLawful _ _ _ h free

theorem takeCells_managementLawful (lo hi : Nat) (cells : Vector MgmtCell 4) (a : AreaStep)
    (h : ManagementLawful a.reset a.state) :
    ManagementLawful (takeCells lo hi cells a).1.reset (takeCells lo hi cells a).1.state :=
  takeCells_preserves (fun a => ManagementLawful a.reset a.state) areaCell_managementLawful lo hi cells a h

theorem takeFirst_managementLawful (n : Nat) (cells : Vector MgmtCell 4) {s : State} (h : ManagementLawful none s) :
    ManagementLawful (takeFirst n cells s).1.reset (takeFirst n cells s).1.state :=
  takeCells_managementLawful 0 n cells { state := s, reset := none } h

/-! Resets, the end of a passage and the loss of lock -/

theorem coldStart_mgmt (u : StartUp) (s : State) : (coldStart u s).mgmt = Management.initial := by
  simp [coldStart, blankPart, State.reset]

theorem warmActions_mgmt (x : ResetReason) (c : PortCondition) (s : State) :
    (warmActions x c s).mgmt = Management.initial := rfl

/-- A reset clears the queue, and without one nothing was reserved. -/
theorem beginReset_managementLawful {k : Option ResetKind} {s : State} (h : ManagementLawful k s) :
    ManagementLawful none (beginReset k s) :=
  beginReset_of_some (fun hk => hk ▸ h) (managementLawful_initial none (coldStart_mgmt _ s))
    (managementLawful_initial none (warmActions_mgmt _ _ s))

theorem endPassage_managementLawful {s : State} (h : ManagementLawful (passageReset s) s) :
    ManagementLawful none (endPassage s) := beginReset_managementLawful (h.congr (cutPassage_mgmt s))

theorem loseLock_managementLawful {s : State} (h : ManagementLawful (passageReset s) s) :
    ManagementLawful none (loseLock s) := (endPassage_managementLawful h).congr (loseLock_mgmt s)

theorem endOutbound_managementLawful (f : Frame) {a : AreaStep × Vector MgmtCell 4}
    (h : ManagementLawful a.1.reset a.1.state) : ManagementLawful none (endOutbound f a) :=
  beginReset_managementLawful (h.congr rfl)

theorem finishPassage_managementLawful {s : State} (h : ManagementLawful (passageReset s) s) :
    ManagementLawful none (finishPassage s) := by
  unfold finishPassage
  split
  · next hc => exact h.of_quiet hc
  · next c hc =>
    have taken : passageReset s = c.reset := by simp [passageReset, hc]
    exact endOutbound_managementLawful _ (takeCells_managementLawful _ _ _ _ ((taken ▸ h).congr (composeFrom_mgmt _ _ s)))

/-! Outbound frames -/

theorem gapTested_mgmt (f : Frame) (s : State) : (gapTested f s).mgmt = s.mgmt := by
  unfold gapTested
  split
  · exact gapTest_mgmt _ _ s
  · rfl

theorem lockedOutbound_managementLawful (f : Frame) (m : Composition) {s : State} (h : ManagementLawful none s) :
    ManagementLawful none (lockedOutbound f m s) := by
  have tested := h.congr (gapTested_mgmt f s)
  have composed := tested.congr (composeFrom_mgmt 0 f (gapTested f s))
  cases m with
  | atOnce =>
    rw [lockedOutbound_atOnce]
    exact endOutbound_managementLawful _ (takeFirst_managementLawful _ _ composed)
  | cut k =>
    rw [lockedOutbound_cut]
    exact endOutbound_managementLawful _ (takeFirst_managementLawful _ _ composed)
  | byCell => rw [lockedOutbound_byCell]; exact tested.congr rfl

theorem outboundFrame_managementLawful {f : Frame} {b : PassageStart} {m : Composition} {s t : State}
    (hs : ManagementLawful (passageReset s) s) (h : exec (.outboundFrame f b m) s = .next t) :
    ManagementLawful (passageReset t) t := by
  have finished := finishPassage_managementLawful hs
  have quiet : (forwardOutbound f (finishPassage s)).ports.composing = none := finishPassage_composing s
  have forwarded := finished.congr (forwardOutbound_mgmt f (finishPassage s))
  simp only [exec, execOutboundFrame] at h
  split at h
  · cases h; exact hs
  · split at h
    · cases h; exact forwarded.weaken rfl
    · split at h
      · cases h; exact forwarded.weaken (searchOutbound_mgmt f _)
      · split at h <;> cases h
        · exact (lockedOutbound_managementLawful f m finished).weaken rfl
        · exact forwarded.weaken (badOutbound_mgmt _ quiet)

/-- A cell that arrives leaves its passage in composition with the RESET taken so far, or ends it. -/
theorem outboundCellArrival_managementLawful {s t : State} (hs : ManagementLawful (passageReset s) s)
    (h : exec .outboundCellArrival s = .next t) : ManagementLawful (passageReset t) t := by
  simp only [exec, execOutboundCellArrival] at h
  split at h
  · cases h; exact hs
  · next c hc =>
    have taken : passageReset s = c.reset := by simp [passageReset, hc]
    rw [taken] at hs
    split at h <;> cases h
    · exact hs.congr (composeCell_mgmt _ _ s)
    · have arrived := areaCell_managementLawful { state := s, reset := c.reset }
        c.frame.commands[Fin.ofNat 4 (c.next - c.frame.used.toNat)] hs
      unfold arriveCommand
      simp only []
      split
      · exact arrived.congr rfl
      · exact (endOutbound_managementLawful _ arrived).weaken rfl

/-! Return frames -/

/-- Responses leave the head of the queue and the rest keeps its order (R15). -/
theorem fillResponses_suffix (cells : List MgmtCell) (queue : List QueueEntry) :
    (fillResponses cells queue).2 <:+ queue := by
  induction cells generalizing queue with
  | nil => exact List.suffix_rfl
  | cons c rest ih =>
    unfold fillResponses
    split
    · exact (ih _).trans (List.suffix_cons _ _)
    · exact ih _

theorem frameBoundary_managementLawful (f : Frame) {k : Option ResetKind} {s : State} (h : ManagementLawful k s) :
    ManagementLawful k (frameBoundary f s) :=
  h.advanceLeases (frameBoundary_queue f s) (lockOf_frameBoundary f s) (frameBoundary_contexts f s)

theorem failedReturn_composing (c : CounterId) (f : Frame) (s : State) :
    (failedReturn c f s).ports.composing = s.ports.composing := by
  unfold failedReturn
  simp only []
  split <;> simp [forwardReturn]

theorem receivedReturn_managementLawful (f : Frame) {s : State} (h : ManagementLawful (passageReset s) s) :
    ManagementLawful (passageReset (receivedReturn f s)) (receivedReturn f s) := by
  have failed : ∀ c, ManagementLawful (passageReset (failedReturn c f s)) (failedReturn c f s) := fun c =>
    h.unmoved (failedReturn_composing c f s) (failedReturn_mgmt c f s)
  unfold receivedReturn
  split
  · exact failed _
  · split
    · have taken : passageReset (matchedReturn f s) = passageReset s := by simp [passageReset, matchedReturn_ports]
      rw [taken]
      exact frameBoundary_managementLawful f (h.dequeue (fillResponses_suffix _ _) (h.locks.congr rfl) (h.contexts.congr rfl))
    · exact failed _

theorem returnFrame_managementLawful {f : Frame} {p : ReturnPassage} {s t : State}
    (hs : ManagementLawful (passageReset s) s) (h : exec (.returnFrame f p) s = .next t) :
    ManagementLawful (passageReset t) t := by
  have forwarded : ManagementLawful (passageReset (forwardReturn f s)) (forwardReturn f s) := hs.unmoved rfl rfl
  simp only [exec, execReturnFrame] at h
  split at h
  · cases h; exact hs
  · split at h
    · cases h; exact forwarded
    · split at h
      · cases h
        split
        · exact hs.dequeue (fillResponses_suffix _ _) (hs.locks.congr rfl) (hs.contexts.congr rfl)
        · exact forwarded
      all_goals cases h; exact receivedReturn_managementLawful f hs

/-! Power and resets -/

theorem takeReset_managementLawful (k : ResetKind) (r : Request) {s : State} (h : ManagementLawful (passageReset s) s) :
    ManagementLawful (passageReset (takeReset k r s)) (takeReset k r s) := by
  unfold takeReset
  split
  · split
    · next free =>
      have closed := (h.congr (closePassage_mgmt s)).renewLeases r
      exact (beginReset_managementLawful (closed.reserveEntry (by simpa using (entryFree_iff s).1 free) _)).weaken rfl
    · exact h.unmoved rfl rfl
  · exact h

/-- While a profile load goes on the ports are TRANSPARENT, and so no passage is in composition (R7). -/
theorem PortsLawful.quiet_of_loading {s : State} (hp : PortsLawful s) (hl : s.startUp.phase = .loading) :
    s.ports.composing = none :=
  hp.quiet_of_offLoop fun onLoop => by simpa [hl] using (hp.running onLoop).1

theorem profileLoadEnd_managementLawful {s t : State} (hp : PortsLawful s) (hs : ManagementLawful (passageReset s) s)
    (h : exec .profileLoadEnd s = .next t) : ManagementLawful (passageReset t) t := by
  simp only [exec, execProfileLoadEnd] at h
  split at h
  · next hl =>
    cases h
    exact (hs.of_quiet (hp.quiet_of_loading hl)).weaken rfl
  · cases h; exact hs

theorem rstNFall_managementLawful {s t : State} (hs : ManagementLawful (passageReset s) s)
    (h : exec .rstNFall s = .next t) : ManagementLawful (passageReset t) t := by
  simp only [exec, execRstNFall] at h
  split at h <;> cases h
  · exact (endPassage_managementLawful hs).weaken rfl
  · exact hs

theorem rstNRise_managementLawful {x : Straps} {s t : State} (hs : ManagementLawful (passageReset s) s)
    (h : exec (.rstNRise x) s = .next t) : ManagementLawful (passageReset t) t := by
  simp only [exec, execRstNRise] at h
  split at h
  · cases h; exact hs
  · split at h <;> cases h
    · exact hs.unmoved rfl rfl
    · exact managementLawful_initial _ (coldStart_mgmt _ _)
    · exact managementLawful_initial _ (warmActions_mgmt _ _ _)
    · exact managementLawful_initial _ (warmActions_mgmt _ _ _)

theorem powerUp_managementLawful {x : Straps} {high : Bool} {s t : State} (h : exec (.powerUp x high) s = .next t) :
    ManagementLawful (passageReset t) t := by
  simp only [exec, execPowerUp] at h
  split at h <;> cases h
  · exact managementLawful_initial _ (coldStart_mgmt _ _)
  · exact managementLawful_initial _ rfl

/-! Events -/

theorem lineIdle_managementLawful {s t : State} (hs : ManagementLawful (passageReset s) s)
    (h : exec .lineIdle s = .next t) : ManagementLawful (passageReset t) t := by
  simp only [exec, execLineIdle] at h
  split at h <;> cases h
  · exact hs.unmoved rfl rfl
  · exact (loseLock_managementLawful hs).weaken rfl
  · exact hs

/-- A domain that becomes FREE is lawful, and the others stay (R158). -/
theorem lockExpiry_managementLawful (d : Domain) {s t : State} (hs : ManagementLawful (passageReset s) s)
    (h : exec (.lockExpiry d) s = .next t) : ManagementLawful (passageReset t) t := by
  cases h
  split
  · exact hs.decided rfl (hs.locks.setLock d holderLawful_none rfl) (hs.contexts.congr rfl)
  · exact hs

/-- An end of a span or of self-timed work that leaves the management is lawful as before (log 4). -/
theorem KeepsPorts.managementLawful {s t : State} {o : Host.Outcome State Fault Refusal} (hk : KeepsPorts s o)
    (hs : ManagementLawful (passageReset s) s) (h : o = .next t) (hm : t.mgmt = s.mgmt) :
    ManagementLawful (passageReset t) t :=
  hs.unmoved (by rw [(hk t h).1]) hm

theorem event_managementLawful (i : Instr) (hi : IsEvent i) (s t : State) (hp : PortsLawful s)
    (hs : ManagementLawful (passageReset s) s) (h : exec i s = .next t) : ManagementLawful (passageReset t) t := by
  cases hi with
  | outboundFrame f b m => exact outboundFrame_managementLawful hs h
  | returnFrame f p => exact returnFrame_managementLawful hs h
  | lineIdle => exact lineIdle_managementLawful hs h
  | lockLoss =>
    cases h
    split
    · exact (loseLock_managementLawful hs).weaken rfl
    · exact hs
  | settleEnd u => exact (settleEnd_keepsPorts u s).managementLawful hs h (by cases h; split <;> rfl)
  | targetCompletion =>
    refine (targetCompletion_keepsPorts s).managementLawful hs h ?_
    simp only [exec, execTargetCompletion] at h
    split at h <;> rw [Host.Outcome.next.injEq] at h <;> subst h
    · exact completeTarget_mgmt _ s
    · rfl
  | shockExit => exact (shockExit_keepsPorts s).managementLawful hs h (by cases h; split <;> rfl)
  | lockExpiry d => exact lockExpiry_managementLawful d hs h
  | bankSwap => exact (bankSwap_keepsPorts s).managementLawful hs h (by cases h; split <;> simp)
  | resyncCopyEnd => exact (resyncCopyEnd_keepsPorts s).managementLawful hs h (by cases h; split <;> simp)
  | captureComplete => exact (captureComplete_keepsPorts s).managementLawful hs h (by cases h; split <;> simp)
  | persistEnd o =>
    refine (persistEnd_keepsPorts o s).managementLawful hs h ?_
    simp only [exec, execPersistEnd] at h
    split at h <;> cases h
    · exact finishPersist_mgmt _ o s
    · rfl
  | persistTimeLimit => exact (persistTimeLimit_keepsPorts s).managementLawful hs h (by cases h; split <;> simp)
  | resetFull r => cases h; exact takeReset_managementLawful _ r hs
  | resetWarm r => cases h; exact takeReset_managementLawful _ r hs
  | powerUp x high => exact powerUp_managementLawful h
  | profileLoadEnd => exact profileLoadEnd_managementLawful hp hs h
  | rstNFall => exact rstNFall_managementLawful hs h
  | rstNRise x => exact rstNRise_managementLawful hs h
  | outboundCellArrival => exact outboundCellArrival_managementLawful hs h
  | lossOfPower => cases h; exact managementLawful_initial _ rfl

theorem takeCommand_passageReset (sent decided : Byte) (r : Request) (s : State) :
    passageReset (takeCommand sent r (decideCommand decided r) s) = passageReset s := by
  simp only [passageReset, takeCommand_ports]

/-- Ports and management together: the end of a profile load needs the ports, which then hold no passage in composition (R7). -/
def LoopManagementLawful (s : State) : Prop := PortsLawful s ∧ ManagementLawful (passageReset s) s

theorem step_loopManagementLawful (s t : State) (hs : LoopManagementLawful s) (h : step s = .next t) :
    LoopManagementLawful t :=
  step_preserves LoopManagementLawful (fun _ _ ⟨hp, hm⟩ => ⟨hp, hm.unmoved rfl rfl⟩)
    (fun s ⟨hp, hm⟩ => ⟨hp.congr (passTick_ports s) (passTick_startUp s),
      hm.unmoved (by rw [passTick_ports]) (passTick_mgmt s)⟩)
    (fun sent decided r s ⟨hp, hm⟩ => ⟨hp.congr (takeCommand_ports sent decided r s) (takeCommand_startUp sent decided r s), by
      rw [takeCommand_passageReset]
      exact takeCommand_managementLawful sent decided r hm⟩)
    (fun i hi s t ⟨hp, hm⟩ h => ⟨event_portsLawful i hi s t hp h, event_managementLawful i hi s t hp hm h⟩) s t hs h

/-- Settles O58: every command and every event keeps the management lawful beside the RESET taken in the passage. -/
theorem managementStaysLawful : Obligations.ManagementStaysLawful := fun s t hp hq hl hc h =>
  have lawful := (managementLawful_iff s).2 ⟨hq, hl, hc⟩
  (managementLawful_iff t).1 (step_loopManagementLawful s t ⟨hp, lawful⟩ h).2

end Sys2Proof.Machine
end

section
/-! PROOFS. The leases and the PERSIST time count at a frame boundary, LOCK_EXPIRED and PERSIST_FAILED (R158, R178). -/

namespace Sys2Proof.Machine

/-! Leases -/

theorem advanceLease_of_more {h : Holder} (hm : h.lease + 1 < 32768) :
    advanceLease (some h) = some { h with lease := h.lease + 1 } := by
  have goesOn : ¬ leaseEnds (some h) = true := by rw [leaseEnds_some]; exact Nat.not_le.2 hm
  rw [advanceLease, if_neg goesOn]
  rfl

theorem advanceLease_of_last {h : Holder} (hl : 32768 ≤ h.lease + 1) : advanceLease (some h) = none :=
  if_pos ((leaseEnds_some h).2 hl)

/-- Some domain's lease ends at the next boundary (R158). -/
def SomeLeaseEnds (l : LockTable) : Prop := ∃ (d : Domain) (h : Holder), lockOf l d = some h ∧ 32768 ≤ h.lease + 1

theorem leaseEnds_iff (h : Option Holder) : leaseEnds h = true ↔ ∃ x, h = some x ∧ 32768 ≤ x.lease + 1 := by
  cases h with
  | none => simp [leaseEnds]
  | some x => simp [leaseEnds_some]

/-- The condition that raises LOCK_EXPIRED, domain by domain. -/
theorem someLeaseEnds_iff (l : LockTable) :
    SomeLeaseEnds l ↔
      (leaseEnds l.standby || leaseEnds l.config || leaseEnds l.capture || leaseEnds l.profile) = true := by
  simp only [SomeLeaseEnds, ← leaseEnds_iff, Bool.or_eq_true]
  constructor
  · rintro ⟨d, hd⟩
    cases d
    case standby => exact .inl (.inl (.inl hd))
    case config => exact .inl (.inl (.inr hd))
    case capture => exact .inl (.inr hd)
    case profile => exact .inr hd
  · rintro (((hd | hd) | hd) | hd)
    · exact ⟨.standby, hd⟩
    · exact ⟨.config, hd⟩
    · exact ⟨.capture, hd⟩
    · exact ⟨.profile, hd⟩

theorem leaseBoundary_lockExpired (s : State) :
    (leaseBoundary s).alerts.pending.getLsbD (8 : Fin 16) = true ↔
      s.alerts.pending.getLsbD (8 : Fin 16) = true ∨ SomeLeaseEnds s.mgmt.locks := by
  rw [someLeaseEnds_iff]
  unfold leaseBoundary
  simp only []
  rw [pending_raiseIf, State.alerts_setMgmt]
  exact or_congr_right (and_iff_left rfl)

theorem captureStart_lockExpired (f : Frame) (s : State) :
    (captureStart f s).alerts.pending.getLsbD (8 : Fin 16) = true ↔
      s.alerts.pending.getLsbD (8 : Fin 16) = true ∨ SomeLeaseEnds s.mgmt.locks := by
  have started : ∀ u, RaisesOnly [] u (startPass f.number u) := fun u => .of_eq (startPass_alerts f.number u)
  have before := (((boundaryIntake_raisesOnly f s).trans (engineBoundary_raisesOnly _)).trans
    (pulseBoundary_raisesOnly f.number (boundaryNotices f (boundaryIntake f s).slots) _)).trans (started _)
  rw [captureStart, leaseBoundary_lockExpired, before 8 (by decide), startPass_mgmt, pulseBoundary_mgmt, engineBoundary_mgmt,
    boundaryIntake_mgmt]

/-- A lease that ends is the only thing at a boundary that raises LOCK_EXPIRED (R158). -/
theorem frameBoundary_lockExpired (f : Frame) (s : State) :
    (frameBoundary f s).alerts.pending.getLsbD (8 : Fin 16) = true ↔
      s.alerts.pending.getLsbD (8 : Fin 16) = true ∨ SomeLeaseEnds s.mgmt.locks := by
  rw [frameBoundary_eq, persistBoundary_raisesOnly _ 8 (by decide), captureBoundary_raisesOnly _ _ _ _ 8 (by decide),
    captureStart_lockExpired]

/-! The time count of a PERSIST -/

section
variable {s : State} {p : PersistRun}

theorem persistBoundary_of_none (hp : s.profile.running = none) : persistBoundary s = s := by
  simp only [persistBoundary, hp]

theorem persistBoundary_of_more (hp : s.profile.running = some p) (hm : p.count + 1 < 20000) :
    persistBoundary s = s.setProfile { s.profile with running := some { p with count := p.count + 1 } } := by
  have goesOn : ¬ Config.persistLimit ≤ p.count + 1 := Nat.not_le.2 hm
  simp only [persistBoundary, hp, if_neg goesOn]

theorem persistBoundary_of_end (hp : s.profile.running = some p) (hl : 20000 ≤ p.count + 1) :
    persistBoundary s =
      raiseAlert .persistFailed (s.setProfile { s.profile with condition := .torn, running := none }) := by
  have ends : Config.persistLimit ≤ p.count + 1 := hl
  simp only [persistBoundary, hp, if_pos ends]

end

theorem persistBoundary_persistFailed (s : State) :
    (persistBoundary s).alerts.pending.getLsbD (6 : Fin 16) = true ↔
      s.alerts.pending.getLsbD (6 : Fin 16) = true ∨ ∃ p, s.profile.running = some p ∧ 20000 ≤ p.count + 1 := by
  cases hp : s.profile.running with
  | none => rw [persistBoundary_of_none hp]; simp
  | some p =>
    rcases Nat.lt_or_ge (p.count + 1) 20000 with more | last
    · rw [persistBoundary_of_more hp more, State.alerts_setProfile]
      refine (or_iff_left ?_).symm
      rintro ⟨_, ⟨⟩, last⟩
      exact Nat.not_le.2 more last
    · rw [persistBoundary_of_end hp last]
      exact iff_of_true ((pending_raiseAlert .persistFailed _ 6).2 (.inr rfl)) (.inr ⟨p, rfl, last⟩)

/-- The Profile Store comes last at a boundary, and no reaction before it touches the store or raises PERSIST_FAILED. -/
theorem frameBoundary_ends_with_persist (f : Frame) (s : State) :
    ∃ u, frameBoundary f s = persistBoundary u ∧ u.profile = s.profile ∧
      (u.alerts.pending.getLsbD (6 : Fin 16) = true ↔ s.alerts.pending.getLsbD (6 : Fin 16) = true) := by
  have before := ((overrunPass_raisesOnly s).trans (captureStart_raisesOnly f s)).trans
    (captureBoundary_raisesOnly f.number (boundaryPulses f s).reports (entersShock f s) _)
  exact ⟨_, frameBoundary_eq f s, by simp [captureStart], before 6 (by decide)⟩

theorem boundaryStart_locks (f : Frame) (s : State) : (boundaryStart f s).mgmt.locks = s.mgmt.locks := rfl

theorem boundaryStart_profile (f : Frame) (s : State) : (boundaryStart f s).profile = s.profile := rfl

/-- Settles O25. -/
theorem leasesAndTimeCountAdvance : Obligations.LeasesAndTimeCountAdvance := by
  intro f s hm
  obtain ⟨u, ends, store, pending⟩ := frameBoundary_ends_with_persist f (boundaryStart f s)
  have held := lockOf_frameBoundary f (boundaryStart f s)
  have expired := frameBoundary_lockExpired f (boundaryStart f s)
  have failed := persistBoundary_persistFailed u
  rw [← ends, pending] at failed
  refine ⟨matchedReturn f s, exec_returnFrame_matching f s hm, ?_⟩
  rw [matchedReturn_eq]
  generalize frameBoundary f (boundaryStart f s) = t at *
  rw [boundaryStart_profile] at store
  rw [boundaryStart_locks] at held expired
  rw [store] at failed
  refine ⟨fun d hd => ?_, fun d h hd more => ?_, fun d h hd last => ?_, expired, failed, fun hp => ?_, fun p hp more => ?_,
    fun p hp last => ?_⟩
  · rw [held, hd]; rfl
  · rw [held, hd, advanceLease_of_more more]
  · rw [held, hd, advanceLease_of_last last]
  · rw [ends, persistBoundary_of_none (store ▸ hp), store]
  · rw [ends, persistBoundary_of_more (store ▸ hp) more, State.profile_setProfile, store]
  · rw [ends, persistBoundary_of_end (store ▸ hp) last, raiseAlert_profile, State.profile_setProfile, store]

end Sys2Proof.Machine
end

section
/-! PROOFS. CLAIM and RELEASE of a lock domain, and SELECT of a Load Context (R151, R156, R157). -/

namespace Sys2Proof.Machine

/-! Locks behind the renewal of the leases -/

/-- A request's own lease begins anew (R158). -/
theorem renewLease_own {r : Request} (tagged : r.tag ≠ 0) {h : Holder} (hm : h.manager = r.manager) (hg : h.tag = r.tag) :
    renewLease r (some h) = some { manager := r.manager, tag := r.tag, lease := 0 } := by
  have own : isHolder r (some h) = true := by
    simp only [isHolder, bne_iff_ne.2 tagged, hm, hg, beq_self_eq_true, Bool.and_self]
  rw [renewLease, if_pos own, Option.map_some, hm, hg]

theorem renewLease_other {r : Request} {h : Holder} (hn : ¬ (h.manager = r.manager ∧ h.tag = r.tag)) :
    renewLease r (some h) = some h := by
  refine renewLease_of_not ?_
  simp only [isHolder, Bool.and_assoc, Bool.and_eq_false_iff, beq_eq_false_iff_ne]
  tauto

theorem Taken.lockOf {r : Request} {s u : State} (ht : Taken r s u) (d : Domain) :
    lockOf u.mgmt.locks d = renewLease r (Machine.lockOf s.mgmt.locks d) := by
  obtain ⟨-, -, rfl⟩ := ht
  exact lockOf_renewLeases r d s

/-! CLAIM and RELEASE, check by check -/

/-- A value above 3 names no domain. -/
theorem domainOfCode_none {b : Byte} (h : 4 ≤ b.toNat) : domainOfCode b = none := by
  unfold domainOfCode
  split
  case h_5 => rfl
  all_goals omega

section
variable {r : Request} {u : State} {d : Domain}

theorem decideClaim_of_unknown (hd : domainOfCode r.payload[0] = none) : decideClaim r u = unchanged .badValue u := by
  simp only [decideClaim, hd]

theorem decideClaim_of_no_tag (untagged : r.tag = 0) : decideClaim r u = unchanged .badValue u := by
  unfold decideClaim
  split
  · rfl
  · rw [if_pos untagged]

theorem decideClaim_free (hd : domainOfCode r.payload[0] = some d) (tagged : r.tag ≠ 0)
    (free : lockOf u.mgmt.locks d = none) :
    decideClaim r u =
      (u.setMgmt { u.mgmt with
        locks := setLock u.mgmt.locks d (some { manager := r.manager, tag := r.tag, lease := 0 }) }, plainReply .ok) := by
  simp only [decideClaim, hd, if_neg tagged, free]

theorem decideClaim_own (hd : domainOfCode r.payload[0] = some d) (tagged : r.tag ≠ 0)
    (own : lockOf u.mgmt.locks d = some { manager := r.manager, tag := r.tag, lease := 0 }) :
    decideClaim r u =
      (u.setMgmt { u.mgmt with
        locks := setLock u.mgmt.locks d (some { manager := r.manager, tag := r.tag, lease := 0 }) }, plainReply .ok) := by
  simp only [decideClaim, hd, if_neg tagged, own, and_self, if_true]

theorem decideClaim_held (hd : domainOfCode r.payload[0] = some d) (tagged : r.tag ≠ 0) {h : Holder}
    (held : lockOf u.mgmt.locks d = some h) (other : ¬ (h.manager = r.manager ∧ h.tag = r.tag)) :
    decideClaim r u =
      (u, { answer := .lockHeld, itemFlag := false, payload := #v[BitVec.ofNat 8 h.manager, 0, 0, 0, 0, 0, 0, 0] }) := by
  simp only [decideClaim, hd, if_neg tagged, held, if_neg other]

theorem decideRelease_of_unknown (hd : domainOfCode r.payload[0] = none) :
    decideRelease r u = unchanged .badValue u := by
  simp only [decideRelease, hd]

theorem decideRelease_of_not_holder (hd : domainOfCode r.payload[0] = some d) (hh : holds r d u = false) :
    decideRelease r u = unchanged .notHolder u := by
  simp [decideRelease, hd, hh]

theorem decideRelease_own (hd : domainOfCode r.payload[0] = some d) (hh : holds r d u = true) :
    decideRelease r u = (u.setMgmt { u.mgmt with locks := setLock u.mgmt.locks d none }, plainReply .ok) := by
  simp only [decideRelease, hd, hh, if_true]

end

/-- Settles O35: the checks of each command in their order, and the domain it leaves. -/
theorem claimAndReleaseAreDecided : Obligations.ClaimAndReleaseAreDecided := by
  refine ⟨fun r s u ht => ⟨fun refused => ?_, fun d hd tagged => ⟨fun free => ?_, fun h held hm hg => ?_, fun h held other => ?_⟩⟩,
    fun r s u ht => ⟨fun hv => ?_, fun d hd => ⟨fun hh => ?_, fun hh => ?_⟩⟩⟩
  · rcases refused with hv | untagged
    · exact answered_of_decision ht rfl (decideClaim_of_unknown (domainOfCode_none hv))
    · exact answered_of_decision ht rfl (decideClaim_of_no_tag untagged)
  · exact answered_of_decision ht rfl (decideClaim_free hd tagged (by rw [ht.lockOf, free, renewLease_eq_none]))
  · exact answered_of_decision ht rfl (decideClaim_own hd tagged (by rw [ht.lockOf, held, renewLease_own tagged hm hg]))
  · exact answered_of_decision ht rfl (decideClaim_held hd tagged (by rw [ht.lockOf, held, renewLease_other other]) other)
  · exact answered_of_decision ht rfl (decideRelease_of_unknown (domainOfCode_none hv))
  · exact answered_of_decision ht rfl (decideRelease_own hd (ht.holds hh))
  · exact answered_of_decision ht rfl (decideRelease_of_not_holder hd (ht.not_holds hh))

/-! SELECT, check by check -/

/-- A value above 13 names no table. -/
theorem tableOfCode_none {b : Byte} (h : 13 < b.toNat) : tableOfCode b = none := by
  unfold tableOfCode
  split
  case h_15 => rfl
  all_goals omega

theorem tableOfCode_tableCode (t : Table) : tableOfCode (tableCode t) = some t := by cases t <;> rfl

theorem modeOfCode_modeCode (m : ContextMode) : modeOfCode (modeCode m) = some m := by cases m <;> rfl

/-- A value that names a mode is its code. -/
theorem eq_modeCode_of_modeOfCode {b : Byte} {m : ContextMode} (h : modeOfCode b = some m) : b = modeCode m := by
  unfold modeOfCode at h
  split at h <;> cases h <;> exact BitVec.eq_of_toNat_eq ‹_›

section
variable {r : Request} {u : State} {t : Table} {m : ContextMode}

theorem decideSelect_of_unknown (ht : tableOfCode r.payload[0] = none) : decideSelect r u = unchanged .badTable u := by
  simp only [decideSelect, ht]

theorem decideSelect_of_range (ht : tableOfCode r.payload[0] = some t)
    (hi : itemCount t ≤ (payloadWord r.payload 1).toNat) : decideSelect r u = unchanged .range u := by
  simp only [decideSelect, ht, if_pos hi]

theorem decideSelect_of_mode (ht : tableOfCode r.payload[0] = some t)
    (hi : (payloadWord r.payload 1).toNat < itemCount t) (hm : ∀ m, r.payload[1] = modeCode m → admitsMode t m = false) :
    decideSelect r u = unchanged .badMode u := by
  simp only [decideSelect, ht, if_neg (Nat.not_le.2 hi)]
  split
  · rfl
  · next m named => rw [hm m (eq_modeCode_of_modeOfCode named)]; rfl

theorem decideSelect_ok (ht : tableOfCode r.payload[0] = some t) (hi : (payloadWord r.payload 1).toNat < itemCount t)
    (hm : modeOfCode r.payload[1] = some m) (ha : admitsMode t m = true) :
    decideSelect r u =
      (setContext r { table := some t, index := (payloadWord r.payload 1).toNat, mode := m, state := .opened } u,
        okReply (payloadOfWords (wordOf (tableCode t) (modeCode m)) (payloadWord r.payload 1)
          (BitVec.ofNat 16 (itemCount t)) 0)) := by
  simp only [decideSelect, ht, if_neg (Nat.not_le.2 hi), hm, ha, if_true]

end

theorem hiByte_wordOf (a b : Byte) : hiByte (wordOf a b) = a := BitVec.extractLsb'_append_eq_left

theorem loByte_wordOf (a b : Byte) : loByte (wordOf a b) = b := BitVec.extractLsb'_append_eq_right

/-- Two words, byte by byte, before two others (R162). -/
theorem payloadOfWords_bytes (a b c d : Byte) (w x : Word) :
    payloadOfWords (wordOf a b) (wordOf c d) w x = #v[a, b, c, d, hiByte w, loByte w, hiByte x, loByte x] := by
  simp only [payloadOfWords, hiByte_wordOf, loByte_wordOf]

/-- Settles O36: the checks of SELECT in their order, and the context it opens. -/
theorem selectIsDecided : Obligations.SelectIsDecided := by
  intro r s u ht
  refine ⟨fun hv => answered_of_decision ht rfl (decideSelect_of_unknown (tableOfCode_none hv)), fun t hc => ?_⟩
  have named : tableOfCode r.payload[0] = some t := hc ▸ tableOfCode_tableCode t
  refine ⟨fun hi => answered_of_decision ht rfl (decideSelect_of_range named hi),
    fun hi hm => answered_of_decision ht rfl (decideSelect_of_mode named hi hm), fun m hi hm ha => ?_⟩
  refine answered_of_decision ht rfl ((decideSelect_ok named hi (hm ▸ modeOfCode_modeCode m) ha).trans ?_)
  rw [← hc, ← hm]
  exact congrArg (fun p => (_, okReply p)) (payloadOfWords_bytes _ _ _ _ _ 0)

end Sys2Proof.Machine
end

section
/-! PROOFS. ARM_CAPTURE and PERSIST (R155, R170, R176, R177). -/

namespace Sys2Proof.Machine

/-! ARM_CAPTURE: its arguments (09 Table 9.8) -/

theorem slotOfByte_eq_some {b : Byte} {t : Slot} : slotOfByte b = some t ↔ t.val = b.toNat := by
  unfold slotOfByte
  split
  · rw [Option.some.injEq, Fin.ext_iff, eq_comm]
  · next out => exact iff_of_false nofun fun same => out (same ▸ t.isLt)

theorem slotOfByte_isSome {b : Byte} : (slotOfByte b).isSome = true ↔ b.toNat < 64 := by
  unfold slotOfByte
  split
  · next inside => exact iff_of_true rfl inside
  · next out => exact iff_of_false nofun out

/-- The channel bytes of a payload. -/
def channelBytes (p : Vector Byte 8) : Vector Byte 4 := #v[p[0], p[1], p[2], p[3]]

theorem channelBytes_get (p : Vector Byte 8) (c : Fin 4) : (channelBytes p)[c] = p[c.val] := by fin_cases c <;> rfl

theorem mem_channelBytes {p : Vector Byte 8} {b : Byte} : b ∈ (channelBytes p).toList ↔ ∃ c : Fin 4, p[c.val] = b := by
  simp only [Vector.mem_toList_iff, Vector.mem_iff_getElem, ← channelBytes_get]
  exact ⟨fun ⟨i, hi, h⟩ => ⟨⟨i, hi⟩, h⟩, fun ⟨c, h⟩ => ⟨c, c.isLt, h⟩⟩

/-- Some channel is present, and every present one names a slot (R155). -/
def ChannelsLawful (p : Vector Byte 8) : Prop :=
  (∃ c : Fin 4, p[c.val].getLsbD 7 = true) ∧ ∀ c : Fin 4, p[c.val].getLsbD 7 = true → (p[c.val] &&& 0x7F).toNat < 64

/-- The trigger kind is one of three, and SEEK names a slot (R155). -/
def TriggerLawful (p : Vector Byte 8) : Prop := p[4].toNat ≤ 2 ∧ (p[4] = 1 → p[5].toNat < 64)

theorem channelsLawful_iff (p : Vector Byte 8) :
    ChannelsLawful p ↔
      (channelBytes p).toList.any channelPresent = true ∧
        ((channelBytes p).toList.all fun b => !channelPresent b || (channelSlot b).isSome) = true := by
  have slot : ∀ b, (channelSlot b).isSome = true ↔ (b &&& 0x7F).toNat < 64 := fun b => slotOfByte_isSome
  simp only [ChannelsLawful, List.any_eq_true, List.all_eq_true, mem_channelBytes, Bool.or_eq_true, Bool.not_eq_true', slot,
    channelPresent]
  refine and_congr ⟨fun ⟨c, hc⟩ => ⟨_, ⟨c, rfl⟩, hc⟩, fun ⟨_, ⟨c, e⟩, hc⟩ => ⟨c, e ▸ hc⟩⟩
    ⟨fun h b ⟨c, e⟩ => ?_, fun h c hc => (h _ ⟨c, rfl⟩).resolve_left (by simp [hc])⟩
  subst e
  cases present : p[c.val].getLsbD 7 with
  | false => exact .inl rfl
  | true => exact .inr (h c present)

/-- The slot of each channel, none for an absent one. -/
def namedChannels (p : Vector Byte 8) : Vector (Option Slot) 4 :=
  Vector.ofFn fun c : Fin 4 => if channelPresent (channelBytes p)[c] then channelSlot (channelBytes p)[c] else none

theorem namedChannels_absent {p : Vector Byte 8} {c : Fin 4} (h : p[c.val].getLsbD 7 = false) :
    (namedChannels p)[c] = none := by
  simp only [namedChannels, Fin.getElem_fin, Vector.getElem_ofFn]
  rw [if_neg]
  simpa [channelPresent, ← channelBytes_get] using h

theorem namedChannels_present {p : Vector Byte 8} {c : Fin 4} (h : p[c.val].getLsbD 7 = true) {t : Slot}
    (ht : t.val = (p[c.val] &&& 0x7F).toNat) : (namedChannels p)[c] = some t := by
  rw [← channelBytes_get] at h ht
  simp only [namedChannels, Fin.getElem_fin, Vector.getElem_ofFn]
  exact (if_pos h).trans (slotOfByte_eq_some.2 ht)

theorem captureArguments_of_lawful {p : Vector Byte 8} {t : Trigger} (ht : triggerOf p = some t) (hc : ChannelsLawful p)
    (hp : p[6].toNat ≤ 192) :
    captureArguments p = some { channels := namedChannels p, trigger := t, preTrigger := p[6].toNat } := by
  obtain ⟨present, named⟩ := (channelsLawful_iff p).1 hc
  simp only [channelBytes] at present named
  simp only [captureArguments, ht, present, named, Config.preTriggerMax, hp, decide_true, Bool.and_self, if_true]
  rfl

theorem captureArguments_lawful {p : Vector Byte 8} {a : CaptureArguments} (h : captureArguments p = some a) :
    triggerOf p = some a.trigger ∧ ChannelsLawful p ∧ p[6].toNat ≤ 192 := by
  simp only [captureArguments] at h
  split at h
  · next t ht =>
    rw [Option.ite_none_right_eq_some] at h
    obtain ⟨checked, same⟩ := h
    simp only [Bool.and_eq_true, decide_eq_true_eq] at checked
    obtain ⟨⟨present, named⟩, pre⟩ := checked
    obtain rfl := Option.some.inj same
    exact ⟨ht, (channelsLawful_iff p).2 ⟨present, named⟩, pre⟩
  · cases h

theorem triggerLawful_of_some {p : Vector Byte 8} {t : Trigger} (h : triggerOf p = some t) : TriggerLawful p := by
  unfold triggerOf at h
  split at h
  · next kind => exact ⟨by omega, fun one => by simp [one] at kind⟩
  · next kind =>
    obtain ⟨u, hu, -⟩ := Option.map_eq_some_iff.1 h
    exact ⟨by omega, fun _ => slotOfByte_isSome.1 (by rw [hu]; rfl)⟩
  · next kind => exact ⟨by omega, fun one => by simp [one] at kind⟩
  · cases h

/-- The trigger that kind and slot of a payload name (09 Table 9.8). -/
def NamesTrigger (p : Vector Byte 8) (t : Trigger) : Prop :=
  (p[4] = 0 → t = .immediate) ∧ (p[4] = 1 → ∃ u : Slot, u.val = p[5].toNat ∧ t = .seek u) ∧ (p[4] = 2 → t = .shock)

theorem triggerOf_of_names {p : Vector Byte 8} {t : Trigger} (hp : TriggerLawful p) (ht : NamesTrigger p t) :
    triggerOf p = some t ∧ (t = .immediate ↔ p[4] = 0) := by
  obtain ⟨kinds, -⟩ := hp
  obtain ⟨immediate, seek, shock⟩ := ht
  have kind : p[4] = 0 ∨ p[4] = 1 ∨ p[4] = 2 := by bv_omega
  rcases kind with h | h | h
  · obtain rfl := immediate h
    exact ⟨by simp [triggerOf, h], iff_of_true rfl h⟩
  · obtain ⟨u, hu, rfl⟩ := seek h
    exact ⟨by simp [triggerOf, h, slotOfByte_eq_some.2 hu], iff_of_false nofun (by simp [h])⟩
  · obtain rfl := shock h
    exact ⟨by simp [triggerOf, h], iff_of_false nofun (by simp [h])⟩

section
variable {r : Request} {u : State}

theorem decideArmCapture_of_not_holder (hh : holds r .capture u = false) :
    decideArmCapture r u = unchanged .notHolder u := by
  simp [decideArmCapture, hh]

theorem decideArmCapture_refused (hh : holds r .capture u = true) (ha : captureArguments r.payload = none) :
    decideArmCapture r u = unchanged .badValue u := by
  simp [decideArmCapture, hh, ha]

theorem decideArmCapture_ok (hh : holds r .capture u = true) {a : CaptureArguments}
    (ha : captureArguments r.payload = some a) : decideArmCapture r u = (u.setCapture (armed a), plainReply .ok) := by
  simp [decideArmCapture, hh, ha]

end

/-- Settles O39: the checks of ARM_CAPTURE in their order, and the capture it arms. -/
theorem armCaptureIsDecided : Obligations.ArmCaptureIsDecided := by
  intro r s u ht
  refine ⟨fun hh => answered_of_decision ht rfl (decideArmCapture_of_not_holder (ht.not_holds hh)),
    fun hh unlawful => answered_of_decision ht rfl (decideArmCapture_refused (ht.holds hh) ?_),
    fun trigger hh lawful immediate seek shock => ?_⟩
  · refine Option.eq_none_iff_forall_ne_some.2 fun a ha => unlawful ?_
    obtain ⟨triggered, ⟨present, named⟩, pre⟩ := captureArguments_lawful ha
    obtain ⟨kind, slot⟩ := triggerLawful_of_some triggered
    exact ⟨present, named, kind, slot, pre⟩
  · obtain ⟨present, named, kind, slot, pre⟩ := lawful
    obtain ⟨triggered, atOnce⟩ := triggerOf_of_names ⟨kind, slot⟩ ⟨immediate, seek, shock⟩
    have arguments := captureArguments_of_lawful triggered ⟨present, named⟩ pre
    refine ⟨namedChannels r.payload, fun c => namedChannels_absent, fun c hc => ?_, ?_⟩
    · exact ⟨⟨_, named c hc⟩, rfl, namedChannels_present hc rfl⟩
    · have answered := answered_of_decision (i := .armCapture r) ht rfl (decideArmCapture_ok (ht.holds hh) arguments)
      simp only [armed, atOnce] at answered
      exact answered

/-! PERSIST (R155, R177) -/

section
variable {r : Request} {u : State}

theorem decidePersist_of_not_holder (hh : holds r .profile u = false) : decidePersist r u = unchanged .notHolder u := by
  simp [decidePersist, hh]

theorem decidePersist_busy (hh : holds r .profile u = true)
    (hb : u.banks.engine ≠ .idle ∨ u.profile.running.isSome = true) : decidePersist r u = unchanged .busy u := by
  simp only [decidePersist, hh, Bool.not_true, Bool.false_eq_true, if_false, if_pos hb]

theorem decidePersist_accepted (hh : holds r .profile u = true) (he : u.banks.engine = .idle)
    (hp : u.profile.running = none) :
    decidePersist r u =
      (u.setProfile { u.profile with
          condition := .torn, image := none, crc := 0, running := some { snapshot := takeSnapshot u, count := 0 } },
        plainReply .accepted) := by
  simp [decidePersist, hh, he, hp]

end

theorem exec_persistEnd {s : State} {p : PersistRun} (hp : s.profile.running = some p) (o : ReadBack) :
    exec (.persistEnd o) s = .next (finishPersist p o s) := by
  simp only [exec, execPersistEnd, hp]

/-- Settles O40: the checks of PERSIST in their order, what it takes, and its two ends. -/
theorem persistIsDecidedAndEnds : Obligations.PersistIsDecidedAndEnds := by
  refine ⟨fun r s u ht => ?_, fun p s hp => ⟨?_, ?_⟩⟩
  · rw [← ht.banks, ← ht.profile, ← ht.slots, ← ht.limit, ← ht.alerts]
    exact ⟨fun hh => answered_of_decision ht rfl (decidePersist_of_not_holder (ht.not_holds hh)),
      fun hh hb => answered_of_decision ht rfl (decidePersist_busy (ht.holds hh) hb),
      fun hh he hp => answered_of_decision ht rfl (decidePersist_accepted (ht.holds hh) he hp)⟩
  · rw [exec_persistEnd hp, finishPersist, raiseAlert_eq]
    rfl
  · rw [exec_persistEnd hp, finishPersist, raiseAlert_eq]
    rfl

end Sys2Proof.Machine
end

section
/-! PROOFS. ACK_ALERT and the level of ALERT_N (R155, R164, R165, R167). -/

namespace Sys2Proof.Machine

/-! The pending set behind an ACK_ALERT -/

/-- A source stays pending where the operand, the first two payload bytes, does not name it (R164). -/
theorem acknowledged_getLsbD (pending : BitVec 16) (p : Vector Byte 8) (n : Fin 16) :
    (pending &&& ~~~(payloadWord p 0)).getLsbD n = (pending.getLsbD n && !(p[0] ++ p[1] : Word).getLsbD n) := by
  rw [BitVec.getLsbD_and, BitVec.getLsbD_not, decide_eq_true n.isLt, Bool.true_and]
  rfl

/-! The sources that drive the line -/

theorem routesLine_iff (route : AlertRoute) : routesLine route = true ↔ route = .line ∨ route = .both := by
  cases route <;> simp [routesLine]

theorem reportsOnLine_iff (u : AlertUnit) (n : Fin 16) :
    reportsOnLine u n = true ↔
      u.pending.getLsbD n = true ∧ u.map[n].masked = false ∧ (u.map[n].route = .line ∨ u.map[n].route = .both) := by
  rw [reportsOnLine, Bool.and_eq_true, Bool.and_eq_true, routesLine_iff, Bool.not_eq_true', and_assoc]

theorem alertAsserted_iff (u : AlertUnit) : alertAsserted u = true ↔ ∃ n, reportsOnLine u n = true := by
  simp [alertAsserted]

/-- Settles O41: ACK_ALERT takes the named sources out of the pending set, and ALERT_N shows the sources on the line. -/
theorem alertsAreAcknowledgedAndShown : Obligations.AlertsAreAcknowledgedAndShown := by
  refine ⟨fun r s u ht => ?_, fun s => ?_⟩
  · rw [← ht.alerts]
    exact ⟨u.alerts.pending &&& ~~~(payloadWord r.payload 0), acknowledged_getLsbD _ _, answered_of_decision ht rfl rfl⟩
  · rw [State.alertN, alertAsserted_iff]
    exact exists_congr (reportsOnLine_iff s.alerts)

end Sys2Proof.Machine
end

section
/-! PROOFS. READ of COUNTERS and of CAPTURE (R153, R168, R174). -/

namespace Sys2Proof.Machine

theorem Taken.counters {r : Request} {s u : State} (ht : Taken r s u) : u.counters = s.counters := by
  obtain ⟨-, -, rfl⟩ := ht
  rfl

theorem Taken.capture {r : Request} {s u : State} (ht : Taken r s u) : u.capture = s.capture := by
  obtain ⟨-, -, rfl⟩ := ht
  rfl

/-- The rows READ, READ_COUNTERS and READ_CAPTURE give one answer (log 5). -/
theorem answered_readRow {i : Instr} {r : Request} (hi : i ∈ [Instr.read r, .readCounters r, .readCapture r]) {a : Reply}
    {s v : State} (answered : Answered (.read r) 6 r a s v) : Answered i 6 r a s v :=
  (exec_readRow hi s).trans answered

/-! COUNTERS (R168) -/

/-- A READ under a context OPEN on a counter answers it, advances the index and leaves that counter 0. -/
theorem decideRead_counter {r : Request} {u : State} {n : Fin 10} {m : ContextMode}
    (h : contextOf r u = { table := some .counters, index := n.val, mode := m, state := .opened }) :
    decideRead r u =
      (setContext r (advanceContext .counters (contextOf r u)) { u with counters := u.counters.set n 0 },
        okReply (wordPayload u.counters[n])) := by
  have hn : Fin.ofNat 10 n.val = n := by ext; simp
  simp only [decideRead, readCounter, answerRead, readItem, h, hn]
  rfl

/-! CAPTURE (R174) -/

/-- Item 256 c + k of CAPTURE lies at channel c and frame index k. -/
theorem captureItem_position (c : Fin 4) (k : Fin 256) :
    Fin.ofNat 4 ((256 * c.val + k.val) / 256) = c ∧ (256 * c.val + k.val) % 256 = k.val := by
  refine ⟨Fin.ext ?_, by omega⟩
  simp only [Fin.ofNat]
  omega

theorem readCaptureItem_idle {x : Capture} (h : x.state = .idle) (i : Nat) : readCaptureItem x i = .refusedWith .empty := by
  simp only [readCaptureItem, h]

theorem readCaptureItem_running {x : Capture} (h : x.state = .armed ∨ x.state = .filling) (i : Nat) :
    readCaptureItem x i = .refusedWith .busy := by
  rcases h with h | h <;> simp only [readCaptureItem, h]

/-- Beyond the recording an item is EMPTY. -/
theorem readCaptureItem_beyond {x : Capture} (h : x.state = .done) (c : Fin 4) {k : Fin 256} (hk : x.rows.length ≤ k.val) :
    readCaptureItem x (256 * c.val + k.val) = .refusedWith .empty := by
  simp only [readCaptureItem, h, captureItem_position, List.getElem?_eq_none hk]

/-- The item of a channel that the capture does not record is EMPTY. -/
theorem readCaptureItem_absent {x : Capture} (h : x.state = .done) {c : Fin 4} {k : Fin 256} {row : CaptureRow}
    (hr : x.rows[k.val]? = some row) (hi : row.items[c] = none) :
    readCaptureItem x (256 * c.val + k.val) = .refusedWith .empty := by
  simp only [readCaptureItem, h, captureItem_position, hr, hi]

/-- A recorded item is answered with the frame of its row, flagged at the kept pre-trigger count. -/
theorem readCaptureItem_recorded {x : Capture} (h : x.state = .done) {c : Fin 4} {k : Fin 256} {row : CaptureRow}
    {item : CaptureItem} (hr : x.rows[k.val]? = some row) (hi : row.items[c] = some item) :
    readCaptureItem x (256 * c.val + k.val) = .item (decide (k.val = x.kept)) (capturePayload row.frame item) := by
  simp only [readCaptureItem, h, captureItem_position, hr, hi, beq_eq_decide]

/-- The bytes of a CAPTURE item (09 Table 9.9). -/
theorem capturePayload_bytes (frame : Word) (x : CaptureItem) :
    let p := capturePayload frame x
    p[0] ++ p[1] = x.sample.getD 0 ∧ p[2].getLsbD 0 = x.sample.isNone ∧ p[3] ++ p[4] = x.last ∧
      p[5] = statusCode x.status ∧ p[6] ++ p[7] = frame :=
  ⟨hiByte_append_loByte _, getLsbD_bit _, hiByte_append_loByte _, rfl, hiByte_append_loByte _⟩

/-- Settles O49: the counter read is cleared, and a CAPTURE item is answered by the state of the capture. -/
theorem countersAndCaptureAreRead : Obligations.CountersAndCaptureAreRead := by
  refine ⟨fun r s u m n ht ho i hi => ?_, fun r s u m c k ht ho i hi => ?_⟩
  · have row : i ∈ [Instr.read r, .readCounters r, .readCapture r] := by
      simp only [List.mem_cons] at hi ⊢
      tauto
    have answered := answered_of_decision ht (exec_readRow row s) (decideRead_counter (ht.openAt ho))
    rwa [ht.counters] at answered ⊢
  · have row : i ∈ [Instr.read r, .readCounters r, .readCapture r] := by
      simp only [List.mem_cons] at hi ⊢
      tauto
    have refused : ∀ {a}, readItem .capture (256 * c.val + k.val) u = .refusedWith a → Answered i 6 r (plainReply a) s u :=
      fun he => answered_readRow row (answered_of_readItem_refused ht ho (by decide) he)
    rw [← ht.capture]
    refine ⟨fun h => refused (readCaptureItem_idle h _), fun h => refused (readCaptureItem_running h _),
      fun h hk => refused (readCaptureItem_beyond h c hk),
      fun cells h hr => ⟨fun absent => refused (readCaptureItem_absent h hr absent), fun x recorded => ?_⟩⟩
    obtain ⟨sample, hole, last, status, frame⟩ := capturePayload_bytes cells.frame x
    exact ⟨capturePayload cells.frame x, sample, hole, last, status, frame,
      answered_readRow row (answeredItem_of_readItem ht ho (by decide) (readCaptureItem_recorded h hr recorded))⟩

end Sys2Proof.Machine
end

section
/-! PROOFS. A step runs the command at the front of the queue, and every command completes and leaves the queue alone. -/

namespace Sys2Proof.Machine

/-- Settles O1: a step takes the front command off the queue before that command runs. -/
theorem stepRunsTheFrontCommand : Obligations.StepRunsTheFrontCommand := fun _ _ _ => rfl

/-- An outcome is a next state with the queue of waiting commands of `s`. -/
def CompletesWithQueueOf (s : State) (o : Host.Outcome State Fault Refusal) : Prop :=
  ∃ t, o = .next t ∧ t.pending = s.pending

theorem completesWithQueueOf_next {s t : State} (h : t.pending = s.pending) : CompletesWithQueueOf s (.next t) := ⟨t, rfl, h⟩

/-- A step that reacts when its condition holds, and else does nothing, leaves the queue where the reaction leaves it. -/
theorem completesWithQueueOf_next_ite {p : Prop} [Decidable p] {s t : State} (h : t.pending = s.pending) :
    CompletesWithQueueOf s (.next (if p then t else s)) :=
  completesWithQueueOf_next (by split; exacts [h, rfl])

/-! The queue behind the operations of the command rows and the passages -/

@[simp] theorem takeCommand_pending (sent decided : Byte) (r : Request) (s : State) :
    (takeCommand sent r (decideCommand decided r) s).pending = s.pending :=
  takeCommand_keeps State.pending _ _ _ _ (fun _ => rfl) (fun _ _ => rfl) (fun _ => rfl) (fun _ => decideCommand_pending _ _ _)

@[simp] theorem cutReturn_pending (k : Fin 5) (report : Bool) (f : Frame) (s : State) :
    (cutReturn k report f s).pending = s.pending := rfl

@[simp] theorem receivedReturn_pending (f : Frame) (s : State) : (receivedReturn f s).pending = s.pending := by
  unfold receivedReturn
  split
  · exact failedReturn_pending _ _ _
  · split
    · exact matchedReturn_pending _ _
    · exact failedReturn_pending _ _ _

@[simp] theorem arriveCommand_pending (c : Composing) (s : State) : (arriveCommand c s).pending = s.pending := by
  have taken := areaCell_pending { state := s, reset := c.reset } c.frame.commands[Fin.ofNat 4 (c.next - c.frame.used.toNat)]
  unfold arriveCommand
  simp only []
  split
  · exact taken
  · exact (endOutbound_pending _ _).trans taken

/-! Frames and cells -/

theorem outboundFrame_completes (f : Frame) (b : PassageStart) (m : Composition) (s : State) :
    CompletesWithQueueOf s (exec (.outboundFrame f b m) s) := by
  simp only [exec, execOutboundFrame]
  split
  case isTrue unpowered => exact completesWithQueueOf_next rfl
  case isFalse powered =>
    split
    case isTrue passesBy => exact completesWithQueueOf_next (by simp)
    case isFalse handled =>
      split
      case h_1 searching => exact completesWithQueueOf_next (by simp)
      case h_2 locked =>
        split
        case isTrue good => exact completesWithQueueOf_next (by simp)
        case isFalse bad => exact completesWithQueueOf_next (by simp)

theorem returnFrame_completes (f : Frame) (p : ReturnPassage) (s : State) :
    CompletesWithQueueOf s (exec (.returnFrame f p) s) := by
  simp only [exec, execReturnFrame]
  split
  case isTrue unpowered => exact completesWithQueueOf_next rfl
  case isFalse powered =>
    split
    case isTrue passesBy => exact completesWithQueueOf_next rfl
    case isFalse handled =>
      cases p with
      | cut k report => exact completesWithQueueOf_next (by split <;> simp)
      | current => exact completesWithQueueOf_next (receivedReturn_pending f s)
      | earlier => exact completesWithQueueOf_next (receivedReturn_pending f s)

theorem outboundCellArrival_completes (s : State) : CompletesWithQueueOf s (exec .outboundCellArrival s) := by
  simp only [exec, execOutboundCellArrival]
  split
  case h_1 quiet => exact completesWithQueueOf_next rfl
  case h_2 c composing =>
    split
    case isTrue slotCell => exact completesWithQueueOf_next (composeCell_pending _ _ _)
    case isFalse commandCell => exact completesWithQueueOf_next (arriveCommand_pending c s)

theorem lineIdle_completes (s : State) : CompletesWithQueueOf s (exec .lineIdle s) := by
  simp only [exec, execLineIdle]
  split
  case h_1 searching => exact completesWithQueueOf_next rfl
  case h_2 locked => exact completesWithQueueOf_next (loseLock_pending s)
  case h_3 transparent => exact completesWithQueueOf_next rfl

/-! Self-timed work -/

theorem targetCompletion_completes (s : State) : CompletesWithQueueOf s (exec .targetCompletion s) := by
  simp only [exec, execTargetCompletion]
  split
  case h_1 p running => exact completesWithQueueOf_next (completeTarget_pending p s)
  case h_2 idle => exact completesWithQueueOf_next rfl

theorem persistEnd_completes (o : ReadBack) (s : State) : CompletesWithQueueOf s (exec (.persistEnd o) s) := by
  simp only [exec, execPersistEnd]
  split
  case h_1 p running => exact completesWithQueueOf_next (finishPersist_pending p o s)
  case h_2 idle => exact completesWithQueueOf_next rfl

/-! Power and the reset line -/

theorem powerUp_completes (x : Straps) (high : Bool) (s : State) : CompletesWithQueueOf s (exec (.powerUp x high) s) := by
  simp only [exec, execPowerUp]
  split
  case isTrue rises => exact completesWithQueueOf_next (by simp)
  case isFalse waits => exact completesWithQueueOf_next rfl

theorem profileLoadEnd_completes (s : State) : CompletesWithQueueOf s (exec .profileLoadEnd s) := by
  simp only [exec, execProfileLoadEnd]
  split
  case isTrue loading => exact completesWithQueueOf_next rfl
  case isFalse notLoading => exact completesWithQueueOf_next rfl

theorem rstNFall_completes (s : State) : CompletesWithQueueOf s (exec .rstNFall s) := by
  simp only [exec, execRstNFall]
  split
  case isTrue falls => exact completesWithQueueOf_next (by simp)
  case isFalse low => exact completesWithQueueOf_next rfl

theorem rstNRise_completes (x : Straps) (s : State) : CompletesWithQueueOf s (exec (.rstNRise x) s) := by
  simp only [exec, execRstNRise]
  split
  case isTrue high => exact completesWithQueueOf_next rfl
  case isFalse rises =>
    split
    case h_1 unpowered => exact completesWithQueueOf_next rfl
    case h_2 waiting => exact completesWithQueueOf_next (powerUpSequence_pending x _)
    case h_3 loading => exact completesWithQueueOf_next (warmActions_pending _ _ _)
    case h_4 running => exact completesWithQueueOf_next (warmActions_pending _ _ _)

/-! The table -/

theorem event_completes {i : Instr} (hi : IsEvent i) (s : State) : CompletesWithQueueOf s (exec i s) := by
  cases hi with
  | outboundFrame f b m => exact outboundFrame_completes f b m s
  | returnFrame f p => exact returnFrame_completes f p s
  | lineIdle => exact lineIdle_completes s
  | lockLoss => exact completesWithQueueOf_next_ite (loseLock_pending s)
  | settleEnd t => exact completesWithQueueOf_next_ite rfl
  | targetCompletion => exact targetCompletion_completes s
  | shockExit => exact completesWithQueueOf_next_ite (exitShock_pending s)
  | lockExpiry d => exact completesWithQueueOf_next_ite rfl
  | bankSwap => exact completesWithQueueOf_next_ite (by simp)
  | resyncCopyEnd => exact completesWithQueueOf_next_ite (copyStep_pending s)
  | captureComplete => exact completesWithQueueOf_next_ite (completeItems_pending s)
  | persistEnd o => exact persistEnd_completes o s
  | persistTimeLimit => exact completesWithQueueOf_next_ite (persistBoundary_pending s)
  | resetFull r => exact completesWithQueueOf_next (takeReset_pending .full r s)
  | resetWarm r => exact completesWithQueueOf_next (takeReset_pending .warm r s)
  | powerUp x high => exact powerUp_completes x high s
  | profileLoadEnd => exact profileLoadEnd_completes s
  | rstNFall => exact rstNFall_completes s
  | rstNRise x => exact rstNRise_completes x s
  | outboundCellArrival => exact outboundCellArrival_completes s
  | lossOfPower => exact completesWithQueueOf_next (unpower_pending s)

/-- Settles O3: a row of the table is an event, or a command cell taken alone whose decision leaves the queue. -/
theorem everyCommandCompletes : Obligations.EveryCommandCompletes := by
  intro i s
  rcases isEvent_or_commandRow i with event | ⟨code, r, row⟩
  · exact event_completes event s
  · obtain ⟨sent, decided, run⟩ := exec_commandRow row s
    exact ⟨_, run, takeCommand_pending sent decided r s⟩

end Sys2Proof.Machine
end
